-- ==== Sys2Proof/Word.lean ====
section
/-! DEFINITION. The one width of the core: every command, argument, CV value and index is a byte (00_scope.md R8 `BYTE_W`,
20_memory.md R42). Bit 0 is the least significant bit (R9). -/

namespace Sys2Proof

/-- An 8-bit value (R54). -/
abbrev Byte := BitVec 8

end Sys2Proof
end

