-- ==== Sys2Proof/Syntax.lean ====
section
/-! DEFINITION. The bus packets as syntax: one constructor per row of spec/opcode_table.json.

A row fixes the bits of `cmd` that its mask names. Where the mask leaves bits of `cmd` free, the constructor carries
`cmd` as an operand and `WellFormed` holds it to the row; elsewhere the row is the whole command byte. `arg1` and
`arg2` are the argument bytes of the formats F2 and F3 (30_encoding.md R55). -/

namespace Sys2Proof

/-- The instructions of the core, in the order of spec/opcode_table.json (00_scope.md R4, 30_encoding.md R59). -/
inductive Instr where
  /-- NOP, 0x00: no-operation (R98). -/
  | nop (arg1 : Byte)
  /-- TRIG, 0x21: trigger or pulse marker (R90). -/
  | trig (arg1 : Byte)
  /-- MCUR, 0x23: motor current (R91). -/
  | mcur (arg1 : Byte)
  /-- ASPD, 0x24: actual speed and direction (R92). -/
  | aspd24 (arg1 : Byte)
  /-- ASPD, 0x50: actual speed and direction (R92). -/
  | aspd50 (arg1 : Byte)
  /-- RSPD, 0x25: requested speed and direction (R93). -/
  | rspd25 (arg1 : Byte)
  /-- RSPD, 0x51: requested speed and direction (R93). -/
  | rspd51 (arg1 : Byte)
  /-- MLOAD, 0x26: motor load (R95). -/
  | mload (arg1 : Byte)
  /-- AGRP, 0x28..0x2F: analog function group (R96). -/
  | agrp (cmd arg1 : Byte)
  /-- ADIR, 0x30..0x31: analog direct command (R97). -/
  | adir (cmd arg1 : Byte)
  /-- AUX, 0x40..0x43: direct or AUX output group (R89). -/
  | aux (cmd arg1 : Byte)
  /-- DSPD, 0x52: DCC-normalised speed and direction (R94). -/
  | dspd (arg1 : Byte)
  /-- MADL, 0x5E: master digital address, low byte (R99). -/
  | madl (arg1 : Byte)
  /-- MADH, 0x5F: master digital address, high byte (R100). -/
  | madh (arg1 : Byte)
  /-- FGRP, 0x60..0x67: function-group state (R85). -/
  | fgrp60 (cmd arg1 : Byte)
  /-- FGRP, 0x68: function-group state (R85). -/
  | fgrp68 (arg1 : Byte)
  /-- MCTL, 0x6C: module control byte (R101). -/
  | mctl (arg1 : Byte)
  /-- BIN, 0x6D: binary state, short form (R86). -/
  | bin (arg1 : Byte)
  /-- BINL, 0x6E: binary state, long form, low part (R87). -/
  | binl (arg1 : Byte)
  /-- BINH, 0x6F: binary state, long form, high part (R88). -/
  | binh (arg1 : Byte)
  /-- CVCHK, 0x77: CV byte check (R112). -/
  | cvchk (arg1 arg2 : Byte)
  /-- CVBIT, 0x7B: CV bit check or bit write (R114). -/
  | cvbit (arg1 arg2 : Byte)
  /-- CVRST, 0x7C: factory-reset trigger (R115). -/
  | cvrst (arg1 arg2 : Byte)
  /-- CVWR, 0x7F: CV byte write (R113). -/
  | cvwr (arg1 arg2 : Byte)
  /-- UNK3, 0x70..0x73: unknown 3-byte opcode (R103). -/
  | unk3x70 (cmd arg1 arg2 : Byte)
  /-- UNK3, 0x74..0x75: unknown 3-byte opcode (R103). -/
  | unk3x74 (cmd arg1 arg2 : Byte)
  /-- UNK3, 0x76: unknown 3-byte opcode (R103). -/
  | unk3x76 (arg1 arg2 : Byte)
  /-- UNK3, 0x78..0x79: unknown 3-byte opcode (R103). -/
  | unk3x78 (cmd arg1 arg2 : Byte)
  /-- UNK3, 0x7A: unknown 3-byte opcode (R103). -/
  | unk3x7A (arg1 arg2 : Byte)
  /-- UNK3, 0x7D: unknown 3-byte opcode (R103). -/
  | unk3x7D (arg1 arg2 : Byte)
  /-- UNK3, 0x7E: unknown 3-byte opcode (R103). -/
  | unk3x7E (arg1 arg2 : Byte)
  /-- UNK2, 0x01: unknown 2-byte opcode (R103). -/
  | unk2x01 (arg1 : Byte)
  /-- UNK2, 0x02..0x03: unknown 2-byte opcode (R103). -/
  | unk2x02 (cmd arg1 : Byte)
  /-- UNK2, 0x04..0x07: unknown 2-byte opcode (R103). -/
  | unk2x04 (cmd arg1 : Byte)
  /-- UNK2, 0x08..0x0F: unknown 2-byte opcode (R103). -/
  | unk2x08 (cmd arg1 : Byte)
  /-- UNK2, 0x10..0x1F: unknown 2-byte opcode (R103). -/
  | unk2x10 (cmd arg1 : Byte)
  /-- UNK2, 0x20: unknown 2-byte opcode (R103). -/
  | unk2x20 (arg1 : Byte)
  /-- UNK2, 0x22: unknown 2-byte opcode (R103). -/
  | unk2x22 (arg1 : Byte)
  /-- UNK2, 0x27: unknown 2-byte opcode (R103). -/
  | unk2x27 (arg1 : Byte)
  /-- UNK2, 0x32..0x33: unknown 2-byte opcode (R103). -/
  | unk2x32 (cmd arg1 : Byte)
  /-- UNK2, 0x34..0x37: unknown 2-byte opcode (R103). -/
  | unk2x34 (cmd arg1 : Byte)
  /-- UNK2, 0x38..0x3F: unknown 2-byte opcode (R103). -/
  | unk2x38 (cmd arg1 : Byte)
  /-- UNK2, 0x44..0x47: unknown 2-byte opcode (R103). -/
  | unk2x44 (cmd arg1 : Byte)
  /-- UNK2, 0x48..0x4F: unknown 2-byte opcode (R103). -/
  | unk2x48 (cmd arg1 : Byte)
  /-- UNK2, 0x53: unknown 2-byte opcode (R103). -/
  | unk2x53 (arg1 : Byte)
  /-- UNK2, 0x54..0x57: unknown 2-byte opcode (R103). -/
  | unk2x54 (cmd arg1 : Byte)
  /-- UNK2, 0x58..0x5B: unknown 2-byte opcode (R103). -/
  | unk2x58 (cmd arg1 : Byte)
  /-- UNK2, 0x5C..0x5D: unknown 2-byte opcode (R103). -/
  | unk2x5C (cmd arg1 : Byte)
  /-- UNK2, 0x69: unknown 2-byte opcode (R103). -/
  | unk2x69 (arg1 : Byte)
  /-- UNK2, 0x6A..0x6B: unknown 2-byte opcode (R103). -/
  | unk2x6A (cmd arg1 : Byte)
  /-- UNK2, 0x80..0xFF: unknown 2-byte opcode (R103). -/
  | unk2x80 (cmd arg1 : Byte)
deriving DecidableEq, Repr

namespace Instr

/-- Byte 0 of the packet: the command byte (R55). -/
def cmd : Instr → Byte
  | .nop _ => 0x00
  | .trig _ => 0x21
  | .mcur _ => 0x23
  | .aspd24 _ => 0x24
  | .aspd50 _ => 0x50
  | .rspd25 _ => 0x25
  | .rspd51 _ => 0x51
  | .mload _ => 0x26
  | .agrp cmd _ => cmd
  | .adir cmd _ => cmd
  | .aux cmd _ => cmd
  | .dspd _ => 0x52
  | .madl _ => 0x5E
  | .madh _ => 0x5F
  | .fgrp60 cmd _ => cmd
  | .fgrp68 _ => 0x68
  | .mctl _ => 0x6C
  | .bin _ => 0x6D
  | .binl _ => 0x6E
  | .binh _ => 0x6F
  | .cvchk _ _ => 0x77
  | .cvbit _ _ => 0x7B
  | .cvrst _ _ => 0x7C
  | .cvwr _ _ => 0x7F
  | .unk3x70 cmd _ _ => cmd
  | .unk3x74 cmd _ _ => cmd
  | .unk3x76 _ _ => 0x76
  | .unk3x78 cmd _ _ => cmd
  | .unk3x7A _ _ => 0x7A
  | .unk3x7D _ _ => 0x7D
  | .unk3x7E _ _ => 0x7E
  | .unk2x01 _ => 0x01
  | .unk2x02 cmd _ => cmd
  | .unk2x04 cmd _ => cmd
  | .unk2x08 cmd _ => cmd
  | .unk2x10 cmd _ => cmd
  | .unk2x20 _ => 0x20
  | .unk2x22 _ => 0x22
  | .unk2x27 _ => 0x27
  | .unk2x32 cmd _ => cmd
  | .unk2x34 cmd _ => cmd
  | .unk2x38 cmd _ => cmd
  | .unk2x44 cmd _ => cmd
  | .unk2x48 cmd _ => cmd
  | .unk2x53 _ => 0x53
  | .unk2x54 cmd _ => cmd
  | .unk2x58 cmd _ => cmd
  | .unk2x5C cmd _ => cmd
  | .unk2x69 _ => 0x69
  | .unk2x6A cmd _ => cmd
  | .unk2x80 cmd _ => cmd

/-- Byte 1 of the packet: the first argument (R55). -/
def arg1 : Instr → Byte
  | .nop arg1 => arg1
  | .trig arg1 => arg1
  | .mcur arg1 => arg1
  | .aspd24 arg1 => arg1
  | .aspd50 arg1 => arg1
  | .rspd25 arg1 => arg1
  | .rspd51 arg1 => arg1
  | .mload arg1 => arg1
  | .agrp _ arg1 => arg1
  | .adir _ arg1 => arg1
  | .aux _ arg1 => arg1
  | .dspd arg1 => arg1
  | .madl arg1 => arg1
  | .madh arg1 => arg1
  | .fgrp60 _ arg1 => arg1
  | .fgrp68 arg1 => arg1
  | .mctl arg1 => arg1
  | .bin arg1 => arg1
  | .binl arg1 => arg1
  | .binh arg1 => arg1
  | .cvchk arg1 _ => arg1
  | .cvbit arg1 _ => arg1
  | .cvrst arg1 _ => arg1
  | .cvwr arg1 _ => arg1
  | .unk3x70 _ arg1 _ => arg1
  | .unk3x74 _ arg1 _ => arg1
  | .unk3x76 arg1 _ => arg1
  | .unk3x78 _ arg1 _ => arg1
  | .unk3x7A arg1 _ => arg1
  | .unk3x7D arg1 _ => arg1
  | .unk3x7E arg1 _ => arg1
  | .unk2x01 arg1 => arg1
  | .unk2x02 _ arg1 => arg1
  | .unk2x04 _ arg1 => arg1
  | .unk2x08 _ arg1 => arg1
  | .unk2x10 _ arg1 => arg1
  | .unk2x20 arg1 => arg1
  | .unk2x22 arg1 => arg1
  | .unk2x27 arg1 => arg1
  | .unk2x32 _ arg1 => arg1
  | .unk2x34 _ arg1 => arg1
  | .unk2x38 _ arg1 => arg1
  | .unk2x44 _ arg1 => arg1
  | .unk2x48 _ arg1 => arg1
  | .unk2x53 arg1 => arg1
  | .unk2x54 _ arg1 => arg1
  | .unk2x58 _ arg1 => arg1
  | .unk2x5C _ arg1 => arg1
  | .unk2x69 arg1 => arg1
  | .unk2x6A _ arg1 => arg1
  | .unk2x80 _ arg1 => arg1

/-- Byte 2 of the packet; a 2-byte packet carries 0x00 (R13, D3). -/
def arg2 : Instr → Byte
  | .nop _ => 0x00
  | .trig _ => 0x00
  | .mcur _ => 0x00
  | .aspd24 _ => 0x00
  | .aspd50 _ => 0x00
  | .rspd25 _ => 0x00
  | .rspd51 _ => 0x00
  | .mload _ => 0x00
  | .agrp _ _ => 0x00
  | .adir _ _ => 0x00
  | .aux _ _ => 0x00
  | .dspd _ => 0x00
  | .madl _ => 0x00
  | .madh _ => 0x00
  | .fgrp60 _ _ => 0x00
  | .fgrp68 _ => 0x00
  | .mctl _ => 0x00
  | .bin _ => 0x00
  | .binl _ => 0x00
  | .binh _ => 0x00
  | .cvchk _ arg2 => arg2
  | .cvbit _ arg2 => arg2
  | .cvrst _ arg2 => arg2
  | .cvwr _ arg2 => arg2
  | .unk3x70 _ _ arg2 => arg2
  | .unk3x74 _ _ arg2 => arg2
  | .unk3x76 _ arg2 => arg2
  | .unk3x78 _ _ arg2 => arg2
  | .unk3x7A _ arg2 => arg2
  | .unk3x7D _ arg2 => arg2
  | .unk3x7E _ arg2 => arg2
  | .unk2x01 _ => 0x00
  | .unk2x02 _ _ => 0x00
  | .unk2x04 _ _ => 0x00
  | .unk2x08 _ _ => 0x00
  | .unk2x10 _ _ => 0x00
  | .unk2x20 _ => 0x00
  | .unk2x22 _ => 0x00
  | .unk2x27 _ => 0x00
  | .unk2x32 _ _ => 0x00
  | .unk2x34 _ _ => 0x00
  | .unk2x38 _ _ => 0x00
  | .unk2x44 _ _ => 0x00
  | .unk2x48 _ _ => 0x00
  | .unk2x53 _ => 0x00
  | .unk2x54 _ _ => 0x00
  | .unk2x58 _ _ => 0x00
  | .unk2x5C _ _ => 0x00
  | .unk2x69 _ => 0x00
  | .unk2x6A _ _ => 0x00
  | .unk2x80 _ _ => 0x00

end Instr

end Sys2Proof
end

