-- ==== Sys2Proof/WellFormed.lean ====
section
/-! DEFINITION. Which instructions are well formed: a constructor whose row leaves bits of the command byte free must hold
a command byte of that row (`cmd & mask == match`, 30_encoding.md and R59). Every argument byte is legal. -/

namespace Sys2Proof

/-- `cmd & mask == pattern`: the command byte lies in the row (30_encoding.md, opening section). -/
def inRow (pattern mask cmd : Byte) : Bool := cmd &&& mask == pattern

/-- The check of one instruction, row by row. -/
def WellFormed : Instr → Bool
  | .nop _ => true
  | .trig _ => true
  | .mcur _ => true
  | .aspd24 _ => true
  | .aspd50 _ => true
  | .rspd25 _ => true
  | .rspd51 _ => true
  | .mload _ => true
  | .agrp cmd _ => inRow 0x28 0xF8 cmd
  | .adir cmd _ => inRow 0x30 0xFE cmd
  | .aux cmd _ => inRow 0x40 0xFC cmd
  | .dspd _ => true
  | .madl _ => true
  | .madh _ => true
  | .fgrp60 cmd _ => inRow 0x60 0xF8 cmd
  | .fgrp68 _ => true
  | .mctl _ => true
  | .bin _ => true
  | .binl _ => true
  | .binh _ => true
  | .cvchk _ _ => true
  | .cvbit _ _ => true
  | .cvrst _ _ => true
  | .cvwr _ _ => true
  | .unk3x70 cmd _ _ => inRow 0x70 0xFC cmd
  | .unk3x74 cmd _ _ => inRow 0x74 0xFE cmd
  | .unk3x76 _ _ => true
  | .unk3x78 cmd _ _ => inRow 0x78 0xFE cmd
  | .unk3x7A _ _ => true
  | .unk3x7D _ _ => true
  | .unk3x7E _ _ => true
  | .unk2x01 _ => true
  | .unk2x02 cmd _ => inRow 0x02 0xFE cmd
  | .unk2x04 cmd _ => inRow 0x04 0xFC cmd
  | .unk2x08 cmd _ => inRow 0x08 0xF8 cmd
  | .unk2x10 cmd _ => inRow 0x10 0xF0 cmd
  | .unk2x20 _ => true
  | .unk2x22 _ => true
  | .unk2x27 _ => true
  | .unk2x32 cmd _ => inRow 0x32 0xFE cmd
  | .unk2x34 cmd _ => inRow 0x34 0xFC cmd
  | .unk2x38 cmd _ => inRow 0x38 0xF8 cmd
  | .unk2x44 cmd _ => inRow 0x44 0xFC cmd
  | .unk2x48 cmd _ => inRow 0x48 0xF8 cmd
  | .unk2x53 _ => true
  | .unk2x54 cmd _ => inRow 0x54 0xFC cmd
  | .unk2x58 cmd _ => inRow 0x58 0xFC cmd
  | .unk2x5C cmd _ => inRow 0x5C 0xFE cmd
  | .unk2x69 _ => true
  | .unk2x6A cmd _ => inRow 0x6A 0xFE cmd
  | .unk2x80 cmd _ => inRow 0x80 0x80 cmd

end Sys2Proof
end

