-- ==== Sys2Proof/Decode.lean ====
section
/-! DEFINITION. From bytes to instructions and back (30_encoding.md).

The decoder is driven by `opcodeTable`, one `OpRow` per row of spec/opcode_table.json. The encoder writes the bytes of an
instruction in bus order. -/

namespace Sys2Proof

/-- R56: the packet has three bytes exactly when `(cmd & 0xF0) == 0x70`. -/
def isThreeByte (cmd : Byte) : Bool := cmd &&& 0xF0 == 0x70

/-- `len(cmd)` of R56. -/
def frameLength (cmd : Byte) : Nat := if isThreeByte cmd then 3 else 2

/-- One row of spec/opcode_table.json: it selects `cmd` when `cmd & mask == pattern`, and `build` makes its instruction
from the bytes `cmd`, `arg1`, `arg2` (30_encoding.md, opening section). -/
structure OpRow where
  mnemonic : String
  pattern : Byte
  mask : Byte
  build : Byte → Byte → Byte → Instr

/-- The row selects this command byte. -/
def OpRow.selects (r : OpRow) (cmd : Byte) : Bool := inRow r.pattern r.mask cmd

/-- The rows of the 2-byte commands the source names (R59). -/
def notifyRows : List OpRow :=
  [⟨"NOP", 0x00, 0xFF, fun _ arg1 _ => .nop arg1⟩,
   ⟨"TRIG", 0x21, 0xFF, fun _ arg1 _ => .trig arg1⟩,
   ⟨"MCUR", 0x23, 0xFF, fun _ arg1 _ => .mcur arg1⟩,
   ⟨"ASPD", 0x24, 0xFF, fun _ arg1 _ => .aspd24 arg1⟩,
   ⟨"ASPD", 0x50, 0xFF, fun _ arg1 _ => .aspd50 arg1⟩,
   ⟨"RSPD", 0x25, 0xFF, fun _ arg1 _ => .rspd25 arg1⟩,
   ⟨"RSPD", 0x51, 0xFF, fun _ arg1 _ => .rspd51 arg1⟩,
   ⟨"MLOAD", 0x26, 0xFF, fun _ arg1 _ => .mload arg1⟩,
   ⟨"AGRP", 0x28, 0xF8, fun cmd arg1 _ => .agrp cmd arg1⟩,
   ⟨"ADIR", 0x30, 0xFE, fun cmd arg1 _ => .adir cmd arg1⟩,
   ⟨"AUX", 0x40, 0xFC, fun cmd arg1 _ => .aux cmd arg1⟩,
   ⟨"DSPD", 0x52, 0xFF, fun _ arg1 _ => .dspd arg1⟩,
   ⟨"MADL", 0x5E, 0xFF, fun _ arg1 _ => .madl arg1⟩,
   ⟨"MADH", 0x5F, 0xFF, fun _ arg1 _ => .madh arg1⟩,
   ⟨"FGRP", 0x60, 0xF8, fun cmd arg1 _ => .fgrp60 cmd arg1⟩,
   ⟨"FGRP", 0x68, 0xFF, fun _ arg1 _ => .fgrp68 arg1⟩,
   ⟨"MCTL", 0x6C, 0xFF, fun _ arg1 _ => .mctl arg1⟩,
   ⟨"BIN", 0x6D, 0xFF, fun _ arg1 _ => .bin arg1⟩,
   ⟨"BINL", 0x6E, 0xFF, fun _ arg1 _ => .binl arg1⟩,
   ⟨"BINH", 0x6F, 0xFF, fun _ arg1 _ => .binh arg1⟩]

/-- The rows of the four CV-manipulation commands (R59). -/
def cvRows : List OpRow :=
  [⟨"CVCHK", 0x77, 0xFF, fun _ arg1 arg2 => .cvchk arg1 arg2⟩,
   ⟨"CVBIT", 0x7B, 0xFF, fun _ arg1 arg2 => .cvbit arg1 arg2⟩,
   ⟨"CVRST", 0x7C, 0xFF, fun _ arg1 arg2 => .cvrst arg1 arg2⟩,
   ⟨"CVWR", 0x7F, 0xFF, fun _ arg1 arg2 => .cvwr arg1 arg2⟩]

/-- The rows of the twelve unknown 3-byte opcodes (R59, R60). -/
def unknown3Rows : List OpRow :=
  [⟨"UNK3", 0x70, 0xFC, fun cmd arg1 arg2 => .unk3x70 cmd arg1 arg2⟩,
   ⟨"UNK3", 0x74, 0xFE, fun cmd arg1 arg2 => .unk3x74 cmd arg1 arg2⟩,
   ⟨"UNK3", 0x76, 0xFF, fun _ arg1 arg2 => .unk3x76 arg1 arg2⟩,
   ⟨"UNK3", 0x78, 0xFE, fun cmd arg1 arg2 => .unk3x78 cmd arg1 arg2⟩,
   ⟨"UNK3", 0x7A, 0xFF, fun _ arg1 arg2 => .unk3x7A arg1 arg2⟩,
   ⟨"UNK3", 0x7D, 0xFF, fun _ arg1 arg2 => .unk3x7D arg1 arg2⟩,
   ⟨"UNK3", 0x7E, 0xFF, fun _ arg1 arg2 => .unk3x7E arg1 arg2⟩]

/-- The rows of the 202 unknown 2-byte opcodes (R59, R60). -/
def unknown2Rows : List OpRow :=
  [⟨"UNK2", 0x01, 0xFF, fun _ arg1 _ => .unk2x01 arg1⟩,
   ⟨"UNK2", 0x02, 0xFE, fun cmd arg1 _ => .unk2x02 cmd arg1⟩,
   ⟨"UNK2", 0x04, 0xFC, fun cmd arg1 _ => .unk2x04 cmd arg1⟩,
   ⟨"UNK2", 0x08, 0xF8, fun cmd arg1 _ => .unk2x08 cmd arg1⟩,
   ⟨"UNK2", 0x10, 0xF0, fun cmd arg1 _ => .unk2x10 cmd arg1⟩,
   ⟨"UNK2", 0x20, 0xFF, fun _ arg1 _ => .unk2x20 arg1⟩,
   ⟨"UNK2", 0x22, 0xFF, fun _ arg1 _ => .unk2x22 arg1⟩,
   ⟨"UNK2", 0x27, 0xFF, fun _ arg1 _ => .unk2x27 arg1⟩,
   ⟨"UNK2", 0x32, 0xFE, fun cmd arg1 _ => .unk2x32 cmd arg1⟩,
   ⟨"UNK2", 0x34, 0xFC, fun cmd arg1 _ => .unk2x34 cmd arg1⟩,
   ⟨"UNK2", 0x38, 0xF8, fun cmd arg1 _ => .unk2x38 cmd arg1⟩,
   ⟨"UNK2", 0x44, 0xFC, fun cmd arg1 _ => .unk2x44 cmd arg1⟩,
   ⟨"UNK2", 0x48, 0xF8, fun cmd arg1 _ => .unk2x48 cmd arg1⟩,
   ⟨"UNK2", 0x53, 0xFF, fun _ arg1 _ => .unk2x53 arg1⟩,
   ⟨"UNK2", 0x54, 0xFC, fun cmd arg1 _ => .unk2x54 cmd arg1⟩,
   ⟨"UNK2", 0x58, 0xFC, fun cmd arg1 _ => .unk2x58 cmd arg1⟩,
   ⟨"UNK2", 0x5C, 0xFE, fun cmd arg1 _ => .unk2x5C cmd arg1⟩,
   ⟨"UNK2", 0x69, 0xFF, fun _ arg1 _ => .unk2x69 arg1⟩,
   ⟨"UNK2", 0x6A, 0xFE, fun cmd arg1 _ => .unk2x6A cmd arg1⟩,
   ⟨"UNK2", 0x80, 0x80, fun cmd arg1 _ => .unk2x80 cmd arg1⟩]

/-- The command map (R59): every command byte selects exactly one row. -/
def opcodeTable : List OpRow := notifyRows ++ cvRows ++ unknown3Rows ++ unknown2Rows

/-- The instruction of a packet `(cmd, arg1, arg2)`; `arg2` is used by 3-byte packets only. The last arm is the source's
"anything else | unknown" (R60); no command byte reaches it, since every one selects a row (R59). -/
def decodeFrame (cmd arg1 arg2 : Byte) : Instr :=
  match opcodeTable.find? (fun r => r.selects cmd) with
  | some r => r.build cmd arg1 arg2
  | none => .unk2x80 cmd arg1

/-- Why bytes are no packet. No command byte is rejected (R60); only a frame that is not complete is (R68: "Trailing bytes
that do not complete a frame produce no packet"). -/
inductive DecodeError where
  /-- No byte at all. -/
  | noCommand
  /-- The command byte stands alone. -/
  | noArg1
  /-- A 3-byte frame whose second argument is missing. -/
  | noArg2
deriving DecidableEq, Repr

/-- Reads one packet from the front of a byte stream and gives back the rest (R40, R55, R56). -/
def decode : List Byte → Except DecodeError (Instr × List Byte)
  | [] => .error .noCommand
  | [_] => .error .noArg1
  | [cmd, arg1] => if isThreeByte cmd then .error .noArg2 else .ok (decodeFrame cmd arg1 0x00, [])
  | cmd :: arg1 :: arg2 :: rest =>
    if isThreeByte cmd then .ok (decodeFrame cmd arg1 arg2, rest)
    else .ok (decodeFrame cmd arg1 0x00, arg2 :: rest)

/-- The bytes of an instruction in bus order (R40, R55). -/
def encode (i : Instr) : List Byte :=
  if isThreeByte i.cmd then [i.cmd, i.arg1, i.arg2] else [i.cmd, i.arg1]

/-- Byte `k` of a word whose first byte is its least significant one; bits at `nbits` and above are zero. -/
def tableByte (nbits w k : Nat) : Byte := BitVec.ofNat 8 ((w % 2 ^ nbits) >>> (8 * k))

/-- The bytes of a table word in bus order, up to the longest packet. -/
def tableBytes (nbits w : Nat) : List Byte := [tableByte nbits w 0, tableByte nbits w 1, tableByte nbits w 2]

/-- The instruction the decoder reads from an opcode-table word (byte 0 in bits 7..0, byte 1 in bits 15..8, byte 2 in bits
23..16). -/
def decodeTableWord (nbits w : Nat) : Option Instr :=
  match decode (tableBytes nbits w) with
  | .ok (i, _) => some i
  | .error _ => none

end Sys2Proof
end

