-- ==== Sys2Proof/Config.lean ====
section
/-! DEFINITION. What an implementation fixes (00_scope.md R8) and the values the spec leaves free.

The parameters are one record, `Params`, that the machine's state carries and no step writes: a statement over every
state is then a statement over every value of every parameter (notes/assumptions/7). -/

namespace Sys2Proof.Config

/-- `INDEX_CV_KEY` (R8, D12): how an index CV is recognised (R109). -/
inductive IndexCvKey where
  /-- The literal test on the raw selector. -/
  | raw
  /-- The test on the normalised selector `V ^ 0x80`. -/
  | normalized
deriving DecidableEq, Repr

/-- `CV_RESET_GATE` (R8, D13): whether 0x7C is subject to the selector check (R107). -/
inductive CvResetGate where
  | gated
  | ungated
deriving DecidableEq, Repr

/-- The kinds of event of 10_state.md R30, one per collaborator call. -/
inductive EventKind where
  | raw2 | raw3 | functionGroup | auxGroup | analogGroup | analogDirect | binaryState | binaryStateLong | triggerPulse
  | motorCurrent | motorLoad | actualSpeed | requestedSpeed | dccSpeed | noOperation | masterAddress | moduleControl
  | unknownMessage | readCV | writeCV | factoryReset | ackPulse
deriving DecidableEq, Repr

/-- Every kind of event. -/
def EventKind.all : List EventKind :=
  [.raw2, .raw3, .functionGroup, .auxGroup, .analogGroup, .analogDirect, .binaryState, .binaryStateLong, .triggerPulse,
   .motorCurrent, .motorLoad, .actualSpeed, .requestedSpeed, .dccSpeed, .noOperation, .masterAddress, .moduleControl,
   .unknownMessage, .readCV, .writeCV, .factoryReset, .ackPulse]

/-- The parameters of 00_scope.md R8 that a model takes. -/
structure Params where
  /-- `QCAP`, an integer at least 1: the number of queue slots. -/
  qcap : Nat
  /-- `INDEX_CV_KEY`. -/
  indexCvKey : IndexCvKey
  /-- `CV_RESET_GATE`. -/
  cvResetGate : CvResetGate
  /-- `CV_INDEX_RESET`. -/
  cvIndexReset : Byte
  /-- `IDENTITY_CV_SELECTOR`: OPEN, a claim that depends on it names its value. -/
  identityCvSelector : Byte
  /-- `AUX_GROUP_BASE`. -/
  auxGroupBase : Int
  /-- `ANALOG_GROUP_BASE`. -/
  analogGroupBase : Int
  /-- `HANDLERS`: the kinds of event the host has registered a handler for. -/
  handlers : List EventKind
deriving DecidableEq, Repr

/-- DESIGN CHOICE (notes/assumptions/8), safe: `IDENTITY_CV_SELECTOR` is OPEN in R8, so the machine right after reset holds
a value nothing is known of. -/
opaque openIdentityCvSelector : Byte

/-- The free value of 43_cv_access.md R110: what CV storage answers to draw number `n` when the environment has no answer
ready. Nothing constrains it (D23; notes/assumptions/9). -/
opaque storageAnswer : Nat → Byte

/-- The defaults of R8. DESIGN CHOICE (notes/assumptions/7): `HANDLERS` has no default in R8 and is every kind here. -/
def Params.default : Params where
  qcap := 5
  indexCvKey := .raw
  cvResetGate := .gated
  cvIndexReset := 0x00
  identityCvSelector := openIdentityCvSelector
  auxGroupBase := 0
  analogGroupBase := 1
  handlers := EventKind.all

/-- `ID_DEFAULT` (R8): the identity an out-of-range request is clamped to. -/
def idDefault : BitVec 2 := 1

/-- `CUR_W` (R8): the width of each queue cursor, `⌈log2 QCAP⌉` bits and at least one. -/
def cursorWidth (qcap : Nat) : Nat := max 1 (Nat.clog 2 qcap)

/-- `IDLE_TIMEOUT` (R8) in milliseconds: a property of the external idle timer only. No step reads it (R126, R143). -/
def idleTimeoutMs : Nat := 7

end Sys2Proof.Config
end

