-- ==== Sys2Proof/Machine/State.lean ====
section
/-! DEFINITION. The state of the core (10_state.md) as plain data, the moves its environment presents, the reasons a step
can stop, and the state right after reset. -/

namespace Sys2Proof.Machine

open Sys2Proof.Config

/-- `fa_state` (10_state.md R17). -/
inductive FaState where
  /-- EC, ExpectCommand. -/
  | expectCommand
  /-- EA1, ExpectArg1. -/
  | expectArg1
  /-- EA2, ExpectArg2. -/
  | expectArg2
  /-- The code 3, unreachable from reset. -/
  | undefined
deriving DecidableEq, Repr

/-- The 2-bit encoding of R17 (D2). -/
def FaState.code : FaState → BitVec 2
  | .expectCommand => 0
  | .expectArg1 => 1
  | .expectArg2 => 2
  | .undefined => 3

/-- `pair` (10_state.md R22). -/
inductive PairState where
  | idle
  /-- AwBSH, AwaitingBinaryStateHigh, armed by 0x6E. -/
  | awaitingBinaryStateHigh
  /-- AwMAH, AwaitingMasterAddressHigh, armed by 0x5E. -/
  | awaitingMasterAddressHigh
  /-- The code 3, unused and unreachable. -/
  | unused
deriving DecidableEq, Repr

/-- The 2-bit encoding of R22 (D5). -/
def PairState.code : PairState → BitVec 2
  | .idle => 0
  | .awaitingBinaryStateHigh => 1
  | .awaitingMasterAddressHigh => 2
  | .unused => 3

/-- A packet `(cmd, arg1, arg2)` (00_scope.md R13); a 2-byte packet carries `arg2 = 0x00`. -/
structure Packet where
  cmd : Byte
  arg1 : Byte
  arg2 : Byte
deriving DecidableEq, Repr

/-- A queue slot (10_state.md R19). -/
structure Slot where
  /-- The occupancy flag. -/
  occ : Bool
  cmd : Byte
  arg1 : Byte
  arg2 : Byte
deriving DecidableEq, Repr

/-- A slot at reset (R19). -/
def Slot.empty : Slot := ⟨false, 0x00, 0x00, 0x00⟩

/-- The packet a slot's data fields hold. -/
def Slot.packet (sl : Slot) : Packet := ⟨sl.cmd, sl.arg1, sl.arg2⟩

/-- One call of the core to an external collaborator, with the field widths of 10_state.md R30. A group number is the
integer R58 computes; a direction or on/off bit is `true` for 1 (forward, on). -/
inductive Event where
  | raw2 (cmd arg1 : Byte)
  | raw3 (cmd arg1 arg2 : Byte)
  | functionGroup (group : Nat) (mask : Byte)
  | auxGroup (group : Int) (mask : Byte)
  | analogGroup (group : Int) (value : Byte)
  | analogDirect (group : Nat) (mask : Byte)
  | binaryState (n : BitVec 7) (on : Bool)
  | binaryStateLong (n : BitVec 15) (on : Bool)
  | triggerPulse (a : Byte)
  | motorCurrent (s : Int)
  | motorLoad (s : Int)
  | actualSpeed (speed : BitVec 7) (dir : Bool)
  | requestedSpeed (speed : BitVec 7) (dir : Bool)
  | dccSpeed (speed : BitVec 7) (dir : Bool)
  | noOperation (a : Byte)
  | masterAddress (a : BitVec 16)
  | moduleControl (m : Byte)
  | unknownMessage (cmd arg1 : Byte)
  /-- `ReadCV(sel, idx) -> v`, with storage's answer. -/
  | readCV (sel idx v : Byte)
  /-- `WriteCV(sel, idx, val) -> r`, with storage's answer. -/
  | writeCV (sel idx val r : Byte)
  | factoryReset (v : Byte)
  | ackPulse
deriving DecidableEq, Repr

/-- The kind of an event, by which handlers are registered (R31). -/
def Event.kind : Event → EventKind
  | .raw2 _ _ => .raw2
  | .raw3 _ _ _ => .raw3
  | .functionGroup _ _ => .functionGroup
  | .auxGroup _ _ => .auxGroup
  | .analogGroup _ _ => .analogGroup
  | .analogDirect _ _ => .analogDirect
  | .binaryState _ _ => .binaryState
  | .binaryStateLong _ _ => .binaryStateLong
  | .triggerPulse _ => .triggerPulse
  | .motorCurrent _ => .motorCurrent
  | .motorLoad _ => .motorLoad
  | .actualSpeed _ _ => .actualSpeed
  | .requestedSpeed _ _ => .requestedSpeed
  | .dccSpeed _ _ => .dccSpeed
  | .noOperation _ => .noOperation
  | .masterAddress _ => .masterAddress
  | .moduleControl _ => .moduleControl
  | .unknownMessage _ _ => .unknownMessage
  | .readCV _ _ _ => .readCV
  | .writeCV _ _ _ _ => .writeCV
  | .factoryReset _ => .factoryReset
  | .ackPulse => .ackPulse

/-- The status a Drain call returns (10_state.md R28). -/
inductive DrainStatus where
  | noMessages
  | decoded
  | unknownPresent
deriving DecidableEq, Repr

/-- The 2-bit code of R28 (D19); 3 is never returned. -/
def DrainStatus.code : DrainStatus → BitVec 2
  | .noMessages => 0
  | .decoded => 1
  | .unknownPresent => 2

/-- Where Init takes the module identity from (70_reset_and_hazards.md R131). The argument of `explicit` is the number as
handed over: one above 0xFF is outside its type (00_scope.md R14). -/
inductive IdentitySource where
  | explicit (n : Nat)
  | storage
deriving DecidableEq, Repr

/-- What an agent does next (10_state.md R15, 60_exceptions.md R123). -/
inductive Input where
  /-- BA: a byte arrives. The argument is the number as handed over: one above 0xFF is outside its type (R14). -/
  | byteArrived (b : Nat)
  /-- IT: the idle-timeout strobe. -/
  | resync
  /-- The host calls Drain: PC takes DrainStart. -/
  | drain
  /-- PC takes its next step inside the Drain call in progress: ConsumeOne or DrainEnd. -/
  | processing
  /-- ENV: the host calls Init. -/
  | init (src : IdentitySource)
deriving DecidableEq, Repr

/-- The state of the core: the tuple of 10_state.md R16, then the model's own fields (INVENTORY.md, State). -/
structure State where
  /-- `fa_state` (R17). -/
  faState : FaState
  /-- `fa_cmd` (R18). -/
  faCmd : Byte
  /-- `fa_arg1` (R18). -/
  faArg1 : Byte
  /-- `slot[0..QCAP-1]` (R19). -/
  slots : List Slot
  /-- `q_wr`, the write cursor (R20). -/
  qWr : Nat
  /-- `q_rd`, the read cursor (R20). -/
  qRd : Nat
  /-- `pair` (R22). -/
  pair : PairState
  /-- `pair_low` (R23). -/
  pairLow : Byte
  /-- `slave_addr`, the module identity (R24). -/
  slaveAddr : BitVec 2
  /-- `cv_index` (R25). -/
  cvIndex : Byte
  /-- `drain_active` (R27). -/
  drainActive : Bool
  /-- `drain_seen` (R27). -/
  drainSeen : Bool
  /-- `drain_unknown` (R27). -/
  drainUnknown : Bool
  /-- `init_done` (R29). -/
  initDone : Bool
  /-- `ev_log`, oldest event first (R30). -/
  evLog : List Event
  /-- The model's own: the parameters of 00_scope.md R8, written by no step (notes/assumptions/7). -/
  params : Params
  /-- The model's own: the statuses returned by the Drain calls so far, oldest first (notes/assumptions/12). -/
  drainReturns : List DrainStatus
  /-- The model's own: what the agents do next, in order (notes/assumptions/3). DESIGN CHOICE (notes/assumptions/24), unsafe:
  the list is finite, so the bus stops in every run, where 70_reset_and_hazards.md R141 makes that a premise. -/
  inputs : List Input
  /-- The model's own: the CV storage answers the environment has ready, in order (notes/assumptions/9). -/
  answers : List Byte
  /-- The model's own: how many CV storage answers have been drawn (notes/assumptions/9). -/
  draws : Nat
deriving DecidableEq, Repr

/-- There is no fault: "there is no unrecoverable error state in this core" (60_exceptions.md R118, 00_scope.md R14). Every
error path of the core is a next state. Safe: nothing can be proved from a fault that cannot be raised. -/
inductive Fault : Type
deriving DecidableEq, Repr

/-- Why the model gives a step no move (00_scope.md R14). Each is safe: it is no behaviour of the hardware, and nothing is
claimed of a run past it. -/
inductive Refusal where
  /-- Raised by no arm: every instruction has its meaning. Safe. -/
  | notModelled (mnemonic : String)
  /-- Raised by the moves BA, IT and PC while `init_done` is 0: only Init is enabled (R133). Safe. -/
  | beforeInit
  /-- Raised by DrainStart while a Drain is in progress (R138, D26). Safe. -/
  | drainNotReentrant
  /-- Raised by Init while a Drain is in progress (R134, U20). Safe. -/
  | initDuringDrain
  /-- Raised by a ConsumeOne or DrainEnd move while no Drain is in progress (R73, R76). Safe. -/
  | noDrainInProgress
  /-- Raised by ByteArrived for a value above 0xFF (R14, U21). Safe. -/
  | byteOutOfType
  /-- Raised by Init for an identity argument above 0xFF (R14, U21). Safe. -/
  | identityOutOfType
deriving DecidableEq, Repr

/-- The machine before the first Init. The spec defines `init_done = 0` (R29) and the empty log (R30); every other value
here is a DESIGN CHOICE (notes/assumptions/11). -/
def State.powerOn : State where
  faState := .expectCommand
  faCmd := 0x00
  faArg1 := 0x00
  slots := List.replicate Params.default.qcap Slot.empty
  qWr := 0
  qRd := 0
  pair := .idle
  pairLow := 0x00
  slaveAddr := 0
  cvIndex := 0x00
  drainActive := false
  drainSeen := false
  drainUnknown := false
  initDone := false
  evLog := []
  params := Params.default
  drainReturns := []
  inputs := []
  answers := []
  draws := 0

/-- The machine right after reset, which is Init (70_reset_and_hazards.md R131): the values of 10_state.md R35, with the
parameters at their defaults. DESIGN CHOICE (notes/assumptions/1): the Init is `Explicit(1)`. -/
def State.reset : State where
  faState := .expectCommand
  faCmd := 0x00
  faArg1 := 0x00
  slots := List.replicate Params.default.qcap Slot.empty
  qWr := 0
  qRd := 0
  pair := .idle
  pairLow := 0x00
  slaveAddr := 1
  cvIndex := Params.default.cvIndexReset
  drainActive := false
  drainSeen := false
  drainUnknown := false
  initDone := true
  evLog := []
  params := Params.default
  drainReturns := []
  inputs := []
  answers := []
  draws := 0

end Sys2Proof.Machine
end

