-- ==== Sys2Proof/Machine/Flags.lean ====
section
/-! DEFINITION. The condition flags of the core: the drain accumulators (10_state.md R27) and the status they form. -/

namespace Sys2Proof.Machine

/-- `drain_seen <- 1` (R73). -/
def State.markSeen (s : State) : State := { s with drainSeen := true }

/-- `drain_unknown <- 1` (R103). -/
def State.markUnknown (s : State) : State := { s with drainUnknown := true }

/-- The flags at DrainStart: 1, 0, 0 (R75). -/
def State.startDrainFlags (s : State) : State :=
  { s with drainActive := true, drainSeen := false, drainUnknown := false }

/-- The status DrainEnd forms from the flags (41_packet_queue.md R76). -/
def drainStatus (seen unknown : Bool) : DrainStatus :=
  if seen = false then .noMessages else if unknown then .unknownPresent else .decoded

end Sys2Proof.Machine
end

