-- ==== Sys2Proof/Machine/Operands.lean ====
section
/-! DEFINITION. The operand forms of 30_encoding.md R57, the group ids of R58 and the values assembled from two packets
(R41). The forms M8, V8, LO, HI and CV are the argument byte itself. -/

namespace Sys2Proof.Machine

/-- `sext_8` (00_scope.md R11), the form S8: the byte as a signed two's-complement integer. -/
def sext8 (v : Byte) : Int := if v.getLsbD 7 then (v.toNat : Int) - 256 else v.toNat

/-- Bit 7 of the forms DN (`D`, on/off) and DS (`dir`, 1 = forward). -/
def topBit (arg1 : Byte) : Bool := arg1.getLsbD 7

/-- Bits 6:0 of the forms DN (`L`) and DS (`speed`). -/
def lowSeven (arg1 : Byte) : BitVec 7 := arg1.extractLsb' 0 7

/-- The long binary-state number `(zext_15(high) << 7) | zext_15(low[6:0])` (R57, R88). -/
def longNumber (high low : Byte) : BitVec 15 := (high.setWidth 15 <<< 7) ||| (lowSeven low).setWidth 15

/-- The master address `(zext_16(high) << 8) | zext_16(low)` (R57, R100). -/
def masterAddress (high low : Byte) : BitVec 16 := (high.setWidth 16 <<< 8) ||| low.setWidth 16

/-- The group id of FGRP, `cmd - 0x60` (R58). -/
def functionGroupId (cmd : Byte) : Nat := cmd.toNat - 0x60

/-- The group id of AUX, `(cmd - 0x40) + AUX_GROUP_BASE` (R58). -/
def auxGroupId (base : Int) (cmd : Byte) : Int := ((cmd.toNat : Int) - 0x40) + base

/-- The group id of AGRP, `(cmd - 0x28) + ANALOG_GROUP_BASE` (R58). -/
def analogGroupId (base : Int) (cmd : Byte) : Int := ((cmd.toNat : Int) - 0x28) + base

/-- The group id of ADIR, `(cmd - 0x30) + 1` (R58). -/
def analogDirectId (cmd : Byte) : Nat := cmd.toNat - 0x30 + 1

/-- The form CVB: `A[7:5]` is 0b111. -/
def cvbPatternOk (a : Byte) : Bool := a.extractLsb' 5 3 == 0b111

/-- The form CVB: `K = A[4]`, 1 = write, 0 = check. -/
def cvbWrite (a : Byte) : Bool := a.getLsbD 4

/-- The form CVB: `B = A[3]`, the compare or write bit. -/
def cvbBit (a : Byte) : Bool := a.getLsbD 3

/-- The form CVB: `P = A[2:0]`, the bit position. -/
def cvbPosition (a : Byte) : Nat := (a.extractLsb' 0 3).toNat

/-- The byte with bit `p` set to `b` (43_cv_access.md R114): `cur | mask` or `cur & ~mask` with `mask = 1 << p`. -/
def writeBit (cur : Byte) (p : Nat) (b : Bool) : Byte :=
  let mask : Byte := 1 <<< p
  if b then cur ||| mask else cur &&& ~~~mask

/-- The selector check `IsValidCV(V, id)` (43_cv_access.md R108, with the resolution C1 of 90_conflicts.md). -/
def isValidCV (v : Byte) (id : BitVec 2) : Bool :=
  let e := v ^^^ 0x80
  if e.getLsbD 7 then false
  else if e ≤ 3 || (123 ≤ e && e ≤ 127) then true
  else if 4 ≤ e && e ≤ 42 then id == 1
  else if 43 ≤ e && e ≤ 82 then id == 2
  else if 83 ≤ e && e ≤ 122 then id == 3
  else false

end Sys2Proof.Machine
end

