-- ==== Sys2Proof/Machine/Ops.lean ====
section
/-! DEFINITION. The operations the rules share: the event log, the queue, the CV storage, the pairing register, the two
stages that run before every dispatch (R82, R83), and the interface operations ByteArrived, Resync, DrainStart, DrainEnd
and Init. The core has no exception to take (60_exceptions.md R121). -/

namespace Sys2Proof.Machine

open Sys2Proof.Config

/-! ### Single updates -/

/-- `emit Ev` (00_scope.md R12): append to `ev_log`. -/
def State.emit (s : State) (e : Event) : State := { s with evLog := s.evLog ++ [e] }

/-- `pair_low <- low`, `pair <- p` (R87, R99). -/
def State.armPairing (s : State) (p : PairState) (low : Byte) : State := { s with pair := p, pairLow := low }

/-- `pair <- Idle`; `pair_low` stays (R83). -/
def State.clearPairing (s : State) : State := { s with pair := .idle }

/-- `cv_index <- v` (R113, R114). -/
def State.setCvIndex (s : State) (v : Byte) : State := { s with cvIndex := v }

/-- The fields of the Frame Assembler (R17, R18). -/
def State.setAssembler (s : State) (st : FaState) (cmd arg1 : Byte) : State :=
  { s with faState := st, faCmd := cmd, faArg1 := arg1 }

/-- The move at the head of `inputs` is taken. -/
def State.popInput (s : State) : State := { s with inputs := s.inputs.tail }

/-! ### The event log -/

/-- Several events in order. -/
def State.emitAll (s : State) (es : List Event) : State := { s with evLog := s.evLog ++ es }

/-- An acknowledgment request, if due (43_cv_access.md R112 to R116). -/
def State.ackIf (s : State) (due : Bool) : State := if due then s.emit .ackPulse else s

/-! ### The packet queue -/

/-- `slot[i]`. A cursor outside the array, which no run reaches (R36 I4), reads an empty slot.
DESIGN CHOICE (notes/assumptions/19), unsafe outside the invariant. -/
def State.slotAt (s : State) (i : Nat) : Slot := s.slots.getD i Slot.empty

/-- `slot[i] <- sl`. -/
def State.writeSlot (s : State) (i : Nat) (sl : Slot) : State := { s with slots := s.slots.set i sl }

/-- `(c + 1) mod QCAP`: a cursor's next value (R20). -/
def State.nextCursor (s : State) (c : Nat) : Nat := (c + 1) % s.params.qcap

/-- `q_wr <- (q_wr + 1) mod QCAP` (R71). -/
def State.advanceWrite (s : State) : State := { s with qWr := s.nextCursor s.qWr }

/-- `q_rd <- (q_rd + 1) mod QCAP` (R73). -/
def State.advanceRead (s : State) : State := { s with qRd := s.nextCursor s.qRd }

/-- `Enqueue(p)` (41_packet_queue.md R71): the result and the state after. -/
def enqueue (p : Packet) (s : State) : Bool × State :=
  if (s.slotAt s.qWr).occ then (false, s)
  else (true, (s.writeSlot s.qWr ⟨true, p.cmd, p.arg1, p.arg2⟩).advanceWrite)

/-- The end of a consumer step: `slot[q_rd].occ <- 0`, `q_rd <- (q_rd + 1) mod QCAP` (R73). -/
def State.releaseSlot (s : State) : State :=
  (s.writeSlot s.qRd { s.slotAt s.qRd with occ := false }).advanceRead

/-! ### CV storage (43_cv_access.md R110) -/

/-- The answer storage gives next: the environment's, or the free value of this draw (notes/assumptions/9). -/
def State.nextAnswer (s : State) : Byte :=
  match s.answers with
  | [] => storageAnswer s.draws
  | a :: _ => a

/-- The next answer is drawn. -/
def State.drawAnswer (s : State) : State := { s with answers := s.answers.tail, draws := s.draws + 1 }

/-- `ReadCV(sel, idx)`: the answer and the state after (R110). -/
def readCV (sel idx : Byte) (s : State) : Byte × State :=
  (s.nextAnswer, s.drawAnswer.emit (.readCV sel idx s.nextAnswer))

/-- `WriteCV(sel, idx, val)`: the resulting value and the state after (R110). -/
def writeCV (sel idx val : Byte) (s : State) : Byte × State :=
  (s.nextAnswer, s.drawAnswer.emit (.writeCV sel idx val s.nextAnswer))

/-- `IsIndexCV(V)` under `INDEX_CV_KEY` (R109). -/
def isIndexCV (key : IndexCvKey) (v : Byte) : Bool :=
  let k := match key with
    | .raw => v
    | .normalized => v ^^^ 0x80
  k == 1 || k == 124

/-- `CurrentByte(V)` (R111): the value and the state after. -/
def currentByte (v : Byte) (s : State) : Byte × State :=
  if isIndexCV s.params.indexCvKey v then (s.cvIndex, s) else readCV v s.cvIndex s

/-! ### The stages before every dispatch -/

/-- `RawNotify(p)` (42_command_interpreter.md R82): the form follows the length (C5). -/
def State.rawNotify (s : State) (p : Packet) : State :=
  if frameLength p.cmd = 2 then s.emit (.raw2 p.cmd p.arg1) else s.emit (.raw3 p.cmd p.arg1 p.arg2)

/-- The continuation a pending pairing awaits (R83). -/
def PairState.expected : PairState → Option Byte
  | .idle => none
  | .awaitingBinaryStateHigh => some 0x6F
  | .awaitingMasterAddressHigh => some 0x5F
  | .unused => none

/-- `CancelPairing(cmd)` (R83). -/
def State.cancelPairing (s : State) (cmd : Byte) : State :=
  if s.pair ≠ .idle ∧ s.pair.expected ≠ some cmd then s.clearPairing else s

/-- `Process(p)` (R81): raw notification, cancellation, then the dispatch stage of the opcode. It always completes. -/
def processPacket (p : Packet) (dispatch : State → State) (s : State) : Host.Outcome State Fault Refusal :=
  .next (dispatch ((s.rawNotify p).cancelPairing p.cmd))

/-- The dispatch stage of every unknown opcode (R103). -/
def dispatchUnknown (cmd arg1 : Byte) (s : State) : State := (s.emit (.unknownMessage cmd arg1)).markUnknown

/-- The gate of the four CV opcodes (43_cv_access.md R107): `body` runs if the selector is valid for this module, or if the
opcode is 0x7C and the gate is open; otherwise the packet is ignored. -/
def cvAccess (cmd v : Byte) (body : State → State) (s : State) : State :=
  if isValidCV v s.slaveAddr = true ∨ (cmd = 0x7C ∧ s.params.cvResetGate = .ungated) then body s else s

/-! ### The interface operations -/

/-- ByteArrived(b) (40_frame_assembler.md R63). The result of Enqueue is ignored (R65). -/
def byteArrived (b : Byte) (s : State) : State :=
  match s.faState with
  | .expectCommand => s.setAssembler .expectArg1 b s.faArg1
  | .expectArg1 =>
    if isThreeByte s.faCmd then s.setAssembler .expectArg2 s.faCmd b
    else ((enqueue ⟨s.faCmd, b, 0x00⟩ s).2).setAssembler .expectCommand s.faCmd s.faArg1
  | .expectArg2 =>
    ((enqueue ⟨s.faCmd, s.faArg1, b⟩ s).2).setAssembler .expectCommand s.faCmd s.faArg1
  | .undefined => s.setAssembler .expectCommand s.faCmd s.faArg1

/-- Resync (R66). -/
def resync (s : State) : State := s.setAssembler .expectCommand s.faCmd s.faArg1

/-- DrainStart (41_packet_queue.md R75). -/
def drainStart (s : State) : State := s.startDrainFlags

/-- DrainEnd (R76): the status is returned to the host. -/
def drainEnd (s : State) : State :=
  { s with drainActive := false, drainReturns := s.drainReturns ++ [drainStatus s.drainSeen s.drainUnknown] }

/-- The legal module identities, `ID_SET` (00_scope.md R8), as the 2-bit value `slave_addr` holds. -/
def legalIdentity (v : Byte) : Option (BitVec 2) :=
  if v = 1 then some 1 else if v = 2 then some 2 else if v = 3 then some 3 else none

/-- The part of Init before the identity (70_reset_and_hazards.md R131): every element at its value of R35. `ev_log` is
not cleared. -/
def State.clearSession (s : State) : State :=
  { s with
    faState := .expectCommand
    faCmd := 0x00
    faArg1 := 0x00
    slots := List.replicate s.params.qcap Slot.empty
    qWr := 0
    qRd := 0
    pair := .idle
    pairLow := 0x00
    cvIndex := s.params.cvIndexReset
    drainActive := false
    drainSeen := false
    drainUnknown := false }

/-- `slave_addr <- id`, `init_done <- 1` (R131). -/
def State.startSession (s : State) (id : BitVec 2) : State := { s with slaveAddr := id, initDone := true }

/-- `Identity(Explicit(n))` (R132): a value outside 1, 2, 3 is the default. -/
def explicitIdentity (n : Byte) : BitVec 2 := (legalIdentity n).getD idDefault

/-- `Identity(Storage)` (R132): the identity and the state after. The result of the persisting write is ignored. -/
def storedIdentity (s : State) : BitVec 2 × State :=
  let (v, t) := readCV s.params.identityCvSelector s.params.cvIndexReset s
  match legalIdentity v with
  | some id => (id, t)
  | none => (idDefault, (writeCV s.params.identityCvSelector s.params.cvIndexReset 1 t).2)

/-- Init(Explicit(n)) (R131). -/
def initExplicit (n : Byte) (s : State) : State := s.clearSession.startSession (explicitIdentity n)

/-- Init(Storage) (R131). -/
def initStorage (s : State) : State :=
  let (id, t) := storedIdentity s.clearSession
  t.startSession id

end Sys2Proof.Machine
end

