-- ==== Sys2Proof/Machine/Cv.lean ====
section
/-! DEFINITION. The CV access subsystem (43_cv_access.md): byte check, bit check and write, factory-reset trigger, byte
write. `v` is the selector (`arg1`) and `a` the data byte (`arg2`). -/

namespace Sys2Proof.Machine

/-- The body of CVCHK (R112). -/
def cvCheck (v a : Byte) (s : State) : State :=
  let (cur, t) := currentByte v s
  t.ackIf (cur == a)

/-- A byte to a CV: `cv_index` for an index CV, acknowledged unconditionally, else storage, acknowledged when the
resulting value is the requested one (R113, R114). -/
def storeCV (v val : Byte) (s : State) : State :=
  if isIndexCV s.params.indexCvKey v then (s.setCvIndex val).ackIf true
  else
    let (r, t) := writeCV v s.cvIndex val s
    t.ackIf (r == val)

/-- The body of CVBIT past the selector check (R114): the pattern test, then the read in both modes, then the write or
the comparison. -/
def cvBitAccess (v a : Byte) (s : State) : State :=
  if cvbPatternOk a then
    let (cur, t) := currentByte v s
    if cvbWrite a then storeCV v (writeBit cur (cvbPosition a) (cvbBit a)) t
    else t.ackIf (cur.getLsbD (cvbPosition a) == cvbBit a)
  else s

/-- The body of CVRST past the gate (R115). -/
def cvFactoryReset (v a : Byte) (s : State) : State :=
  if v = 0x07 then (s.emit (.factoryReset a)).ackIf true else s

/-- CVCHK, 0x77 (R107, R112). -/
def execCvchk (arg1 arg2 : Byte) (s : State) : Host.Outcome State Fault Refusal :=
  processPacket ⟨0x77, arg1, arg2⟩ (cvAccess 0x77 arg1 (cvCheck arg1 arg2)) s

/-- CVBIT, 0x7B (R107, R114). -/
def execCvbit (arg1 arg2 : Byte) (s : State) : Host.Outcome State Fault Refusal :=
  processPacket ⟨0x7B, arg1, arg2⟩ (cvAccess 0x7B arg1 (cvBitAccess arg1 arg2)) s

/-- CVRST, 0x7C (R107, R115). -/
def execCvrst (arg1 arg2 : Byte) (s : State) : Host.Outcome State Fault Refusal :=
  processPacket ⟨0x7C, arg1, arg2⟩ (cvAccess 0x7C arg1 (cvFactoryReset arg1 arg2)) s

/-- CVWR, 0x7F (R107, R113). -/
def execCvwr (arg1 arg2 : Byte) (s : State) : Host.Outcome State Fault Refusal :=
  processPacket ⟨0x7F, arg1, arg2⟩ (cvAccess 0x7F arg1 (storeCV arg1 arg2)) s

end Sys2Proof.Machine
end

