-- ==== Sys2Proof/Machine/Notify.lean ====
section
/-! DEFINITION. The 2-byte commands that notify the host and touch no state of the core
(42_command_interpreter.md R85, R86, R89 to R98, R101). -/

namespace Sys2Proof.Machine

/-- NOP (R98). -/
def execNop (arg1 : Byte) (s : State) : Host.Outcome State Fault Refusal :=
  processPacket ⟨0x00, arg1, 0x00⟩ (·.emit (.noOperation arg1)) s

/-- TRIG (R90). -/
def execTrig (arg1 : Byte) (s : State) : Host.Outcome State Fault Refusal :=
  processPacket ⟨0x21, arg1, 0x00⟩ (·.emit (.triggerPulse arg1)) s

/-- MCUR (R91). -/
def execMcur (arg1 : Byte) (s : State) : Host.Outcome State Fault Refusal :=
  processPacket ⟨0x23, arg1, 0x00⟩ (·.emit (.motorCurrent (sext8 arg1))) s

/-- ASPD, 0x24 (R92). -/
def execAspd24 (arg1 : Byte) (s : State) : Host.Outcome State Fault Refusal :=
  processPacket ⟨0x24, arg1, 0x00⟩ (·.emit (.actualSpeed (lowSeven arg1) (topBit arg1))) s

/-- ASPD, 0x50 (R92). -/
def execAspd50 (arg1 : Byte) (s : State) : Host.Outcome State Fault Refusal :=
  processPacket ⟨0x50, arg1, 0x00⟩ (·.emit (.actualSpeed (lowSeven arg1) (topBit arg1))) s

/-- RSPD, 0x25 (R93). -/
def execRspd25 (arg1 : Byte) (s : State) : Host.Outcome State Fault Refusal :=
  processPacket ⟨0x25, arg1, 0x00⟩ (·.emit (.requestedSpeed (lowSeven arg1) (topBit arg1))) s

/-- RSPD, 0x51 (R93). -/
def execRspd51 (arg1 : Byte) (s : State) : Host.Outcome State Fault Refusal :=
  processPacket ⟨0x51, arg1, 0x00⟩ (·.emit (.requestedSpeed (lowSeven arg1) (topBit arg1))) s

/-- MLOAD (R95). -/
def execMload (arg1 : Byte) (s : State) : Host.Outcome State Fault Refusal :=
  processPacket ⟨0x26, arg1, 0x00⟩ (·.emit (.motorLoad (sext8 arg1))) s

/-- AGRP, 0x28..0x2F (R96). -/
def execAgrp (cmd arg1 : Byte) (s : State) : Host.Outcome State Fault Refusal :=
  processPacket ⟨cmd, arg1, 0x00⟩ (fun t => t.emit (.analogGroup (analogGroupId t.params.analogGroupBase cmd) arg1)) s

/-- ADIR, 0x30 and 0x31 (R97). -/
def execAdir (cmd arg1 : Byte) (s : State) : Host.Outcome State Fault Refusal :=
  processPacket ⟨cmd, arg1, 0x00⟩ (·.emit (.analogDirect (analogDirectId cmd) arg1)) s

/-- AUX, 0x40..0x43 (R89). -/
def execAux (cmd arg1 : Byte) (s : State) : Host.Outcome State Fault Refusal :=
  processPacket ⟨cmd, arg1, 0x00⟩ (fun t => t.emit (.auxGroup (auxGroupId t.params.auxGroupBase cmd) arg1)) s

/-- DSPD (R94). -/
def execDspd (arg1 : Byte) (s : State) : Host.Outcome State Fault Refusal :=
  processPacket ⟨0x52, arg1, 0x00⟩ (·.emit (.dccSpeed (lowSeven arg1) (topBit arg1))) s

/-- FGRP, 0x60..0x67 (R85). -/
def execFgrp60 (cmd arg1 : Byte) (s : State) : Host.Outcome State Fault Refusal :=
  processPacket ⟨cmd, arg1, 0x00⟩ (·.emit (.functionGroup (functionGroupId cmd) arg1)) s

/-- FGRP, 0x68 (R85). -/
def execFgrp68 (arg1 : Byte) (s : State) : Host.Outcome State Fault Refusal :=
  processPacket ⟨0x68, arg1, 0x00⟩ (·.emit (.functionGroup (functionGroupId 0x68) arg1)) s

/-- MCTL (R101): the byte is passed through, neither stored nor acted on. -/
def execMctl (arg1 : Byte) (s : State) : Host.Outcome State Fault Refusal :=
  processPacket ⟨0x6C, arg1, 0x00⟩ (·.emit (.moduleControl arg1)) s

/-- The broadcast of BIN: numbers 1 to 127 in ascending order (R86, D32). -/
def broadcastEvents (on : Bool) : List Event :=
  (List.range 127).map fun k => .binaryState (BitVec.ofNat 7 (k + 1)) on

/-- BIN (R86): one number, or every number when `L` is 0. -/
def execBin (arg1 : Byte) (s : State) : Host.Outcome State Fault Refusal :=
  processPacket ⟨0x6D, arg1, 0x00⟩
    (fun t =>
      if lowSeven arg1 ≠ 0 then t.emit (.binaryState (lowSeven arg1) (topBit arg1))
      else t.emitAll (broadcastEvents (topBit arg1))) s

end Sys2Proof.Machine
end

