-- ==== Sys2Proof/Machine/Pairing.lean ====
section
/-! DEFINITION. The two-packet pairings (42_command_interpreter.md R87, R88, R99, R100). The cancellation of R83 has
already run when a dispatch stage sees `pair`. -/

namespace Sys2Proof.Machine

/-- MADL, 0x5E (R99). -/
def execMadl (arg1 : Byte) (s : State) : Host.Outcome State Fault Refusal :=
  processPacket ⟨0x5E, arg1, 0x00⟩ (·.armPairing .awaitingMasterAddressHigh arg1) s

/-- MADH, 0x5F (R100): no event without its pairing (D15); Idle afterwards (D16). -/
def execMadh (arg1 : Byte) (s : State) : Host.Outcome State Fault Refusal :=
  processPacket ⟨0x5F, arg1, 0x00⟩
    (fun t =>
      if t.pair = .awaitingMasterAddressHigh then
        (t.emit (.masterAddress (masterAddress arg1 t.pairLow))).clearPairing
      else t) s

/-- BINL, 0x6E (R87). -/
def execBinl (arg1 : Byte) (s : State) : Host.Outcome State Fault Refusal :=
  processPacket ⟨0x6E, arg1, 0x00⟩ (·.armPairing .awaitingBinaryStateHigh arg1) s

/-- BINH, 0x6F (R88): no event without its pairing (D15); Idle afterwards (D16). -/
def execBinh (arg1 : Byte) (s : State) : Host.Outcome State Fault Refusal :=
  processPacket ⟨0x6F, arg1, 0x00⟩
    (fun t =>
      if t.pair = .awaitingBinaryStateHigh then
        (t.emit (.binaryStateLong (longNumber arg1 t.pairLow) (topBit t.pairLow))).clearPairing
      else t) s

end Sys2Proof.Machine
end

