-- ==== Sys2Proof/Machine/Unknown.lean ====
section
/-! DEFINITION. The unknown opcodes (42_command_interpreter.md R103), one meaning per row of the table. They share
`dispatchUnknown`; a 3-byte unknown packet's `arg2` reaches its raw event only. -/

namespace Sys2Proof.Machine

/-- UNK3, 0x70..0x73 (R103). -/
def execUnk3x70 (cmd arg1 arg2 : Byte) (s : State) : Host.Outcome State Fault Refusal :=
  processPacket ⟨cmd, arg1, arg2⟩ (dispatchUnknown cmd arg1) s

/-- UNK3, 0x74..0x75 (R103). -/
def execUnk3x74 (cmd arg1 arg2 : Byte) (s : State) : Host.Outcome State Fault Refusal :=
  processPacket ⟨cmd, arg1, arg2⟩ (dispatchUnknown cmd arg1) s

/-- UNK3, 0x76 (R103). -/
def execUnk3x76 (arg1 arg2 : Byte) (s : State) : Host.Outcome State Fault Refusal :=
  processPacket ⟨0x76, arg1, arg2⟩ (dispatchUnknown 0x76 arg1) s

/-- UNK3, 0x78..0x79 (R103). -/
def execUnk3x78 (cmd arg1 arg2 : Byte) (s : State) : Host.Outcome State Fault Refusal :=
  processPacket ⟨cmd, arg1, arg2⟩ (dispatchUnknown cmd arg1) s

/-- UNK3, 0x7A (R103). -/
def execUnk3x7A (arg1 arg2 : Byte) (s : State) : Host.Outcome State Fault Refusal :=
  processPacket ⟨0x7A, arg1, arg2⟩ (dispatchUnknown 0x7A arg1) s

/-- UNK3, 0x7D (R103). -/
def execUnk3x7D (arg1 arg2 : Byte) (s : State) : Host.Outcome State Fault Refusal :=
  processPacket ⟨0x7D, arg1, arg2⟩ (dispatchUnknown 0x7D arg1) s

/-- UNK3, 0x7E (R103). -/
def execUnk3x7E (arg1 arg2 : Byte) (s : State) : Host.Outcome State Fault Refusal :=
  processPacket ⟨0x7E, arg1, arg2⟩ (dispatchUnknown 0x7E arg1) s

/-- UNK2, 0x01 (R103). -/
def execUnk2x01 (arg1 : Byte) (s : State) : Host.Outcome State Fault Refusal :=
  processPacket ⟨0x01, arg1, 0x00⟩ (dispatchUnknown 0x01 arg1) s

/-- UNK2, 0x02..0x03 (R103). -/
def execUnk2x02 (cmd arg1 : Byte) (s : State) : Host.Outcome State Fault Refusal :=
  processPacket ⟨cmd, arg1, 0x00⟩ (dispatchUnknown cmd arg1) s

/-- UNK2, 0x04..0x07 (R103). -/
def execUnk2x04 (cmd arg1 : Byte) (s : State) : Host.Outcome State Fault Refusal :=
  processPacket ⟨cmd, arg1, 0x00⟩ (dispatchUnknown cmd arg1) s

/-- UNK2, 0x08..0x0F (R103). -/
def execUnk2x08 (cmd arg1 : Byte) (s : State) : Host.Outcome State Fault Refusal :=
  processPacket ⟨cmd, arg1, 0x00⟩ (dispatchUnknown cmd arg1) s

/-- UNK2, 0x10..0x1F (R103). -/
def execUnk2x10 (cmd arg1 : Byte) (s : State) : Host.Outcome State Fault Refusal :=
  processPacket ⟨cmd, arg1, 0x00⟩ (dispatchUnknown cmd arg1) s

/-- UNK2, 0x20 (R103). -/
def execUnk2x20 (arg1 : Byte) (s : State) : Host.Outcome State Fault Refusal :=
  processPacket ⟨0x20, arg1, 0x00⟩ (dispatchUnknown 0x20 arg1) s

/-- UNK2, 0x22 (R103). -/
def execUnk2x22 (arg1 : Byte) (s : State) : Host.Outcome State Fault Refusal :=
  processPacket ⟨0x22, arg1, 0x00⟩ (dispatchUnknown 0x22 arg1) s

/-- UNK2, 0x27 (R103). -/
def execUnk2x27 (arg1 : Byte) (s : State) : Host.Outcome State Fault Refusal :=
  processPacket ⟨0x27, arg1, 0x00⟩ (dispatchUnknown 0x27 arg1) s

/-- UNK2, 0x32..0x33 (R103). -/
def execUnk2x32 (cmd arg1 : Byte) (s : State) : Host.Outcome State Fault Refusal :=
  processPacket ⟨cmd, arg1, 0x00⟩ (dispatchUnknown cmd arg1) s

/-- UNK2, 0x34..0x37 (R103). -/
def execUnk2x34 (cmd arg1 : Byte) (s : State) : Host.Outcome State Fault Refusal :=
  processPacket ⟨cmd, arg1, 0x00⟩ (dispatchUnknown cmd arg1) s

/-- UNK2, 0x38..0x3F (R103). -/
def execUnk2x38 (cmd arg1 : Byte) (s : State) : Host.Outcome State Fault Refusal :=
  processPacket ⟨cmd, arg1, 0x00⟩ (dispatchUnknown cmd arg1) s

/-- UNK2, 0x44..0x47 (R103). -/
def execUnk2x44 (cmd arg1 : Byte) (s : State) : Host.Outcome State Fault Refusal :=
  processPacket ⟨cmd, arg1, 0x00⟩ (dispatchUnknown cmd arg1) s

/-- UNK2, 0x48..0x4F (R103). -/
def execUnk2x48 (cmd arg1 : Byte) (s : State) : Host.Outcome State Fault Refusal :=
  processPacket ⟨cmd, arg1, 0x00⟩ (dispatchUnknown cmd arg1) s

/-- UNK2, 0x53 (R103). -/
def execUnk2x53 (arg1 : Byte) (s : State) : Host.Outcome State Fault Refusal :=
  processPacket ⟨0x53, arg1, 0x00⟩ (dispatchUnknown 0x53 arg1) s

/-- UNK2, 0x54..0x57 (R103). -/
def execUnk2x54 (cmd arg1 : Byte) (s : State) : Host.Outcome State Fault Refusal :=
  processPacket ⟨cmd, arg1, 0x00⟩ (dispatchUnknown cmd arg1) s

/-- UNK2, 0x58..0x5B (R103). -/
def execUnk2x58 (cmd arg1 : Byte) (s : State) : Host.Outcome State Fault Refusal :=
  processPacket ⟨cmd, arg1, 0x00⟩ (dispatchUnknown cmd arg1) s

/-- UNK2, 0x5C..0x5D (R103). -/
def execUnk2x5C (cmd arg1 : Byte) (s : State) : Host.Outcome State Fault Refusal :=
  processPacket ⟨cmd, arg1, 0x00⟩ (dispatchUnknown cmd arg1) s

/-- UNK2, 0x69 (R103). -/
def execUnk2x69 (arg1 : Byte) (s : State) : Host.Outcome State Fault Refusal :=
  processPacket ⟨0x69, arg1, 0x00⟩ (dispatchUnknown 0x69 arg1) s

/-- UNK2, 0x6A..0x6B (R103). -/
def execUnk2x6A (cmd arg1 : Byte) (s : State) : Host.Outcome State Fault Refusal :=
  processPacket ⟨cmd, arg1, 0x00⟩ (dispatchUnknown cmd arg1) s

/-- UNK2, 0x80..0xFF (R103). -/
def execUnk2x80 (cmd arg1 : Byte) (s : State) : Host.Outcome State Fault Refusal :=
  processPacket ⟨cmd, arg1, 0x00⟩ (dispatchUnknown cmd arg1) s

end Sys2Proof.Machine
end

