-- ==== Sys2Proof/Machine/Dispatch.lean ====
section
/-! DEFINITION. Dispatch (42_command_interpreter.md R84): each instruction to its meaning. -/

namespace Sys2Proof.Machine

def exec (i : Instr) (s : State) : Host.Outcome State Fault Refusal :=
  match i with
  | .nop arg1 => Sys2Proof.Machine.execNop arg1 s
  | .trig arg1 => Sys2Proof.Machine.execTrig arg1 s
  | .mcur arg1 => Sys2Proof.Machine.execMcur arg1 s
  | .aspd24 arg1 => Sys2Proof.Machine.execAspd24 arg1 s
  | .aspd50 arg1 => Sys2Proof.Machine.execAspd50 arg1 s
  | .rspd25 arg1 => Sys2Proof.Machine.execRspd25 arg1 s
  | .rspd51 arg1 => Sys2Proof.Machine.execRspd51 arg1 s
  | .mload arg1 => Sys2Proof.Machine.execMload arg1 s
  | .agrp cmd arg1 => Sys2Proof.Machine.execAgrp cmd arg1 s
  | .adir cmd arg1 => Sys2Proof.Machine.execAdir cmd arg1 s
  | .aux cmd arg1 => Sys2Proof.Machine.execAux cmd arg1 s
  | .dspd arg1 => Sys2Proof.Machine.execDspd arg1 s
  | .madl arg1 => Sys2Proof.Machine.execMadl arg1 s
  | .madh arg1 => Sys2Proof.Machine.execMadh arg1 s
  | .fgrp60 cmd arg1 => Sys2Proof.Machine.execFgrp60 cmd arg1 s
  | .fgrp68 arg1 => Sys2Proof.Machine.execFgrp68 arg1 s
  | .mctl arg1 => Sys2Proof.Machine.execMctl arg1 s
  | .bin arg1 => Sys2Proof.Machine.execBin arg1 s
  | .binl arg1 => Sys2Proof.Machine.execBinl arg1 s
  | .binh arg1 => Sys2Proof.Machine.execBinh arg1 s
  | .cvchk arg1 arg2 => Sys2Proof.Machine.execCvchk arg1 arg2 s
  | .cvbit arg1 arg2 => Sys2Proof.Machine.execCvbit arg1 arg2 s
  | .cvrst arg1 arg2 => Sys2Proof.Machine.execCvrst arg1 arg2 s
  | .cvwr arg1 arg2 => Sys2Proof.Machine.execCvwr arg1 arg2 s
  | .unk3x70 cmd arg1 arg2 => Sys2Proof.Machine.execUnk3x70 cmd arg1 arg2 s
  | .unk3x74 cmd arg1 arg2 => Sys2Proof.Machine.execUnk3x74 cmd arg1 arg2 s
  | .unk3x76 arg1 arg2 => Sys2Proof.Machine.execUnk3x76 arg1 arg2 s
  | .unk3x78 cmd arg1 arg2 => Sys2Proof.Machine.execUnk3x78 cmd arg1 arg2 s
  | .unk3x7A arg1 arg2 => Sys2Proof.Machine.execUnk3x7A arg1 arg2 s
  | .unk3x7D arg1 arg2 => Sys2Proof.Machine.execUnk3x7D arg1 arg2 s
  | .unk3x7E arg1 arg2 => Sys2Proof.Machine.execUnk3x7E arg1 arg2 s
  | .unk2x01 arg1 => Sys2Proof.Machine.execUnk2x01 arg1 s
  | .unk2x02 cmd arg1 => Sys2Proof.Machine.execUnk2x02 cmd arg1 s
  | .unk2x04 cmd arg1 => Sys2Proof.Machine.execUnk2x04 cmd arg1 s
  | .unk2x08 cmd arg1 => Sys2Proof.Machine.execUnk2x08 cmd arg1 s
  | .unk2x10 cmd arg1 => Sys2Proof.Machine.execUnk2x10 cmd arg1 s
  | .unk2x20 arg1 => Sys2Proof.Machine.execUnk2x20 arg1 s
  | .unk2x22 arg1 => Sys2Proof.Machine.execUnk2x22 arg1 s
  | .unk2x27 arg1 => Sys2Proof.Machine.execUnk2x27 arg1 s
  | .unk2x32 cmd arg1 => Sys2Proof.Machine.execUnk2x32 cmd arg1 s
  | .unk2x34 cmd arg1 => Sys2Proof.Machine.execUnk2x34 cmd arg1 s
  | .unk2x38 cmd arg1 => Sys2Proof.Machine.execUnk2x38 cmd arg1 s
  | .unk2x44 cmd arg1 => Sys2Proof.Machine.execUnk2x44 cmd arg1 s
  | .unk2x48 cmd arg1 => Sys2Proof.Machine.execUnk2x48 cmd arg1 s
  | .unk2x53 arg1 => Sys2Proof.Machine.execUnk2x53 arg1 s
  | .unk2x54 cmd arg1 => Sys2Proof.Machine.execUnk2x54 cmd arg1 s
  | .unk2x58 cmd arg1 => Sys2Proof.Machine.execUnk2x58 cmd arg1 s
  | .unk2x5C cmd arg1 => Sys2Proof.Machine.execUnk2x5C cmd arg1 s
  | .unk2x69 arg1 => Sys2Proof.Machine.execUnk2x69 arg1 s
  | .unk2x6A cmd arg1 => Sys2Proof.Machine.execUnk2x6A cmd arg1 s
  | .unk2x80 cmd arg1 => Sys2Proof.Machine.execUnk2x80 cmd arg1 s

end Sys2Proof.Machine
end

