-- ==== Sys2Proof/Machine/Agents.lean ====
section
/-! DEFINITION. The atomic moves of the agents (20_memory.md R43, 60_exceptions.md R123) with the conditions that enable
them. A move that is not enabled is refused by name (00_scope.md R14). -/

namespace Sys2Proof.Machine

/-- The instruction the consumer reads next: the packet in `slot[q_rd]`, decoded. -/
def State.fetch (s : State) : Instr :=
  decodeFrame (s.slotAt s.qRd).cmd (s.slotAt s.qRd).arg1 (s.slotAt s.qRd).arg2

/-- ConsumeOne (41_packet_queue.md R73): copy, `drain_seen <- 1`, Process, and only then release the slot. -/
def consumeOne (s : State) : Host.Outcome State Fault Refusal :=
  match exec s.fetch s.markSeen with
  | .next t => .next t.releaseSlot
  | .fault f => .fault f
  | .refused r => .refused r

/-- PC's next step inside a Drain: ConsumeOne or DrainEnd, whichever is enabled (R73, R76). DEDUCED (notes/assumptions/17),
safe: before Init neither is enabled (R133). -/
def processingStep (s : State) : Host.Outcome State Fault Refusal :=
  if s.initDone = false then .refused .beforeInit
  else if s.drainActive = false then .refused .noDrainInProgress
  else if (s.slotAt s.qRd).occ then consumeOne s
  else .next (drainEnd s)

/-- BA's step (R63, R133). -/
def byteStep (b : Nat) (s : State) : Host.Outcome State Fault Refusal :=
  if 0xFF < b then .refused .byteOutOfType
  else if s.initDone = false then .refused .beforeInit
  else .next (byteArrived (BitVec.ofNat 8 b) s)

/-- IT's step (R66, R133). -/
def resyncStep (s : State) : Host.Outcome State Fault Refusal :=
  if s.initDone = false then .refused .beforeInit else .next (resync s)

/-- The start of the host's Drain call (R75, R133, R138). -/
def drainStep (s : State) : Host.Outcome State Fault Refusal :=
  if s.initDone = false then .refused .beforeInit
  else if s.drainActive then .refused .drainNotReentrant
  else .next (drainStart s)

/-- The host's Init call (R131, R134). -/
def initStep (src : IdentitySource) (s : State) : Host.Outcome State Fault Refusal :=
  match src with
  | .explicit n =>
    if 0xFF < n then .refused .identityOutOfType
    else if s.drainActive then .refused .initDuringDrain
    else .next (initExplicit (BitVec.ofNat 8 n) s)
  | .storage => if s.drainActive then .refused .initDuringDrain else .next (initStorage s)

/-- The move an agent presents. -/
def perform (m : Input) (s : State) : Host.Outcome State Fault Refusal :=
  match m with
  | .byteArrived b => byteStep b s
  | .resync => resyncStep s
  | .drain => drainStep s
  | .processing => processingStep s
  | .init src => initStep src s

/-- What happens when no move is presented: a Drain in progress goes on by itself, and otherwise the core waits for
inputs (R135). DESIGN CHOICE (notes/assumptions/4), safe. -/
def unprompted (s : State) : Host.Outcome State Fault Refusal :=
  if s.drainActive then processingStep s else .next s

/-- The move at the head of `inputs`, taken off the list; with none there, what the core does by itself. DESIGN CHOICE
(notes/assumptions/24), unsafe for a claim that a Drain returns: a finite list always comes to its end (R141). -/
def nextMove (s : State) : Host.Outcome State Fault Refusal :=
  match s.inputs with
  | [] => unprompted s
  | m :: _ => perform m s.popInput

/-- The slot that holds the packet of a table word, occupied; a 2-byte packet carries `arg2 = 0x00` (R19). -/
def wordSlot (nbits w : Nat) : Slot :=
  let cmd := tableByte nbits w 0
  ⟨true, cmd, tableByte nbits w 1, if isThreeByte cmd then tableByte nbits w 2 else 0x00⟩

/-- The packet of a table word stands at the head of the queue, where the consumer reads next, as if the producer had
enqueued it: into an empty queue `q_wr` moves past it, and a packet already at the head is replaced. -/
def loadHead (nbits w : Nat) (s : State) : State :=
  { s.writeSlot s.qRd (wordSlot nbits w) with
    qWr := if (s.slotAt s.qRd).occ then s.qWr else s.nextCursor s.qRd }

end Sys2Proof.Machine
end

