-- ==== Sys2Proof/Machine/Step.lean ====
section
/-! DEFINITION. One step of the machine: one atomic move of one agent (00_scope.md R7, 20_memory.md R43). -/

namespace Sys2Proof.Machine

/-- One step: the move the state presents next. -/
def step (s : State) : Host.Outcome State Fault Refusal := nextMove s

/-- `s` with the instruction of a table word at the head of the queue, a Drain in progress and PC to move next, so that the
next step consumes exactly that packet. DESIGN CHOICE (notes/assumptions/2). -/
def State.withFetchWord (s : State) (nbits w : Nat) : State :=
  { loadHead nbits w s with initDone := true, drainActive := true, inputs := .processing :: s.inputs }

end Sys2Proof.Machine
end

