-- ==== Sys2Proof/Safety.lean ====
section
/-! DEFINITION. What a safe state and a safe run are, and the words the statements use: the reachable invariants of
10_state.md R36, the queue read as a list of packets, the frames of a byte stream, the effect of a packet as R81 gives it,
and what the host receives. -/

namespace Sys2Proof.Machine

open Sys2Proof.Config

/-! ### The queue as a list -/

/-- The `i`-th slot from the read cursor. -/
def State.fromHead (s : State) (i : Nat) : Slot := s.slotAt ((s.qRd + i) % s.params.qcap)

/-- I4 of R36 with the bounds of R19 and R20, for a queue that holds `k` packets: the occupied slots are exactly the `k`
consecutive slots from `q_rd`, and `q_wr` is `k` places past `q_rd`. -/
def State.HoldsPackets (s : State) (k : Nat) : Prop :=
  k ≤ s.params.qcap ∧ s.qWr = (s.qRd + k) % s.params.qcap ∧
    ∀ i, i < s.params.qcap → (s.fromHead i).occ = decide (i < k)

/-- The queue is in its canonical form (R19, R20, R36 I4): `QCAP` slots, at least one, both cursors inside. -/
def State.QueueWf (s : State) : Prop :=
  s.slots.length = s.params.qcap ∧ s.qRd < s.params.qcap ∧ ∃ k, s.HoldsPackets k

/-- The packets in the queue, the next one to be consumed first: the consumer "stops at the first unoccupied slot" (R74). -/
def State.queued (s : State) : List Packet :=
  (((List.range s.params.qcap).map s.fromHead).takeWhile (·.occ)).map Slot.packet

/-! ### Invariants -/

/-- The reachable invariants of 10_state.md R36 (I1 to I5), after Init. -/
structure State.Inv (s : State) : Prop where
  afterInit : s.initDone = true
  i1 : s.faState ≠ .undefined
  i2 : s.pair ≠ .unused
  i3 : s.slaveAddr ≠ 0
  i4 : s.QueueWf
  i5 : s.drainUnknown = true → s.drainSeen = true

/-- What R19 and R63 say of the packets the assembler makes: only a 3-byte command waits for a second argument, and every
2-byte packet in the queue carries `arg2 = 0x00`. -/
def State.FramesWf (s : State) : Prop :=
  (s.faState = .expectArg2 → isThreeByte s.faCmd = true) ∧
    ∀ sl ∈ s.slots, sl.occ = true → isThreeByte sl.cmd = false → sl.arg2 = 0x00

/-! ### Byte streams -/

/-- The complete frames of a byte stream that starts at a command byte (40_frame_assembler.md R68). -/
def framesOf : List Byte → List Packet
  | [] => []
  | [_] => []
  | [cmd, arg1] => if isThreeByte cmd then [] else [⟨cmd, arg1, 0x00⟩]
  | cmd :: arg1 :: arg2 :: rest =>
    if isThreeByte cmd then ⟨cmd, arg1, arg2⟩ :: framesOf rest else ⟨cmd, arg1, 0x00⟩ :: framesOf (arg2 :: rest)

/-- The state the assembler is in after a byte stream that starts at a command byte (R68): which byte of an incomplete
frame comes next. -/
def assemblerAfter : List Byte → FaState
  | [] => .expectCommand
  | [_] => .expectArg1
  | [cmd, _] => if isThreeByte cmd then .expectArg2 else .expectCommand
  | cmd :: _ :: arg2 :: rest => if isThreeByte cmd then assemblerAfter rest else assemblerAfter (arg2 :: rest)

/-- The bytes of the frame a slot holds: three for a 3-byte command, two otherwise (R19, R56). -/
def Slot.bytes (sl : Slot) : List Byte :=
  if isThreeByte sl.cmd then [sl.cmd, sl.arg1, sl.arg2] else [sl.cmd, sl.arg1]

/-- A byte stream as moves of BA. -/
def byteMoves (bs : List Byte) : List Input := bs.map fun b => .byteArrived b.toNat

/-! ### The effect of a packet -/

/-- What the cancellation of 42_command_interpreter.md R83 leaves in `pair`: only the awaited continuation keeps a
pending pairing. -/
def pairAfterCancel (p : PairState) (cmd : Byte) : PairState :=
  match p with
  | .idle => .idle
  | .awaitingBinaryStateHigh => if cmd = 0x6F then .awaitingBinaryStateHigh else .idle
  | .awaitingMasterAddressHigh => if cmd = 0x5F then .awaitingMasterAddressHigh else .idle
  | .unused => .idle

/-- The `n`-th storage answer from now: the environment's if it has one ready, else the free value of that draw. -/
def State.answerAt (s : State) (n : Nat) : Byte := s.answers.getD n (storageAnswer (s.draws + n))

/-- The acknowledgment request, if due. -/
def ackEvents (due : Bool) : List Event := if due then [.ackPulse] else []

/-- The byte `cur` with bit `p` as `b` (43_cv_access.md R114): `cur | (1 << p)` or `cur & ~(1 << p)`. -/
def withBit (cur : Byte) (p : Nat) (b : Bool) : Byte :=
  if b then cur ||| (1#8 <<< p) else cur &&& ~~~(1#8 <<< p)

/-- The raw event of a packet: the form follows the length (42_command_interpreter.md R82). -/
def rawEvent (cmd arg1 arg2 : Byte) : Event := if isThreeByte cmd then .raw3 cmd arg1 arg2 else .raw2 cmd arg1

/-- The event is a call to CV storage (20_memory.md R44). -/
def Event.isStorageCall : Event → Bool
  | .readCV _ _ _ => true
  | .writeCV _ _ _ _ => true
  | _ => false

/-- The index argument of a call to CV storage. -/
def Event.storageIndex : Event → Option Byte
  | .readCV _ idx _ => some idx
  | .writeCV _ idx _ _ => some idx
  | _ => none

/-- The mnemonic the command map gives a command byte (30_encoding.md R59). -/
def commandMnemonic (cmd : Byte) : String :=
  if cmd = 0x00 then "NOP"
  else if cmd = 0x21 then "TRIG"
  else if cmd = 0x23 then "MCUR"
  else if cmd = 0x24 ∨ cmd = 0x50 then "ASPD"
  else if cmd = 0x25 ∨ cmd = 0x51 then "RSPD"
  else if cmd = 0x26 then "MLOAD"
  else if 0x28 ≤ cmd ∧ cmd ≤ 0x2F then "AGRP"
  else if cmd = 0x30 ∨ cmd = 0x31 then "ADIR"
  else if 0x40 ≤ cmd ∧ cmd ≤ 0x43 then "AUX"
  else if cmd = 0x52 then "DSPD"
  else if cmd = 0x5E then "MADL"
  else if cmd = 0x5F then "MADH"
  else if 0x60 ≤ cmd ∧ cmd ≤ 0x68 then "FGRP"
  else if cmd = 0x6C then "MCTL"
  else if cmd = 0x6D then "BIN"
  else if cmd = 0x6E then "BINL"
  else if cmd = 0x6F then "BINH"
  else if cmd = 0x77 then "CVCHK"
  else if cmd = 0x7B then "CVBIT"
  else if cmd = 0x7C then "CVRST"
  else if cmd = 0x7F then "CVWR"
  else if 0x70 ≤ cmd ∧ cmd ≤ 0x7E then "UNK3"
  else "UNK2"

/-- The opcode is in the rows UNK2 or UNK3: it is none of those the source names (30_encoding.md R59, R60). -/
def isUnknownOpcode (cmd : Byte) : Bool :=
  !(cmd ∈ [0x00, 0x21, 0x23, 0x24, 0x25, 0x26, 0x28, 0x29, 0x2A, 0x2B, 0x2C, 0x2D, 0x2E, 0x2F, 0x30, 0x31, 0x40, 0x41,
    0x42, 0x43, 0x50, 0x51, 0x52, 0x5E, 0x5F, 0x60, 0x61, 0x62, 0x63, 0x64, 0x65, 0x66, 0x67, 0x68, 0x6C, 0x6D, 0x6E,
    0x6F, 0x77, 0x7B, 0x7C, 0x7F])

/-- The instructions of the 27 rows UNK3 and UNK2, with the arguments of a frame. -/
def unknownInstrs (cmd arg1 arg2 : Byte) : List Instr :=
  [.unk3x70 cmd arg1 arg2, .unk3x74 cmd arg1 arg2, .unk3x76 arg1 arg2, .unk3x78 cmd arg1 arg2, .unk3x7A arg1 arg2,
    .unk3x7D arg1 arg2, .unk3x7E arg1 arg2, .unk2x01 arg1, .unk2x02 cmd arg1, .unk2x04 cmd arg1, .unk2x08 cmd arg1,
    .unk2x10 cmd arg1, .unk2x20 arg1, .unk2x22 arg1, .unk2x27 arg1, .unk2x32 cmd arg1, .unk2x34 cmd arg1,
    .unk2x38 cmd arg1, .unk2x44 cmd arg1, .unk2x48 cmd arg1, .unk2x53 arg1, .unk2x54 cmd arg1, .unk2x58 cmd arg1,
    .unk2x5C cmd arg1, .unk2x69 arg1, .unk2x6A cmd arg1, .unk2x80 cmd arg1]

/-- The command is one of the four CV-manipulation opcodes (42_command_interpreter.md R102). -/
def isCvOpcode (cmd : Byte) : Bool := cmd ∈ [0x77, 0x7B, 0x7C, 0x7F]

/-! ### Init -/

/-- The state right after an Init that computes the identity `id` (10_state.md R35): every element of the table at its
value. The log, the parameters and the environment's fields stay. -/
def State.initialised (s : State) (id : BitVec 2) : State :=
  { s with
    faState := .expectCommand
    faCmd := 0x00
    faArg1 := 0x00
    slots := List.replicate s.params.qcap ⟨false, 0x00, 0x00, 0x00⟩
    qWr := 0
    qRd := 0
    pair := .idle
    pairLow := 0x00
    slaveAddr := id
    cvIndex := s.params.cvIndexReset
    drainActive := false
    drainSeen := false
    drainUnknown := false
    initDone := true }

/-! ### What the host sees -/

/-- The events the host's registered handlers receive (10_state.md R31). The core never reads `handlers`. -/
def State.hostReceives (s : State) : List Event := s.evLog.filter fun e => decide (e.kind ∈ s.params.handlers)

/-! ### Runs -/

/-- PC moves next: its turn is presented, or nothing is and a Drain in progress goes on by itself. -/
def State.ProcessingNext (s : State) : Prop := s.inputs = [] ∨ s.inputs.head? = some .processing

/-- The next move is no Init. -/
def State.NoInitNext (s : State) : Prop := ∀ src, s.inputs.head? ≠ some (.init src)

/-- `k` steps of the machine, stopping at the first refusal. -/
def runSteps (k : Nat) (s : State) : Host.Outcome State Fault Refusal := Sys2Proof.core.run k s

/-- A run of `k` steps that stops nowhere: every move was enabled and of its type. -/
def RunsSafely (k : Nat) (s : State) : Prop := ∃ t, runSteps k s = .next t

end Sys2Proof.Machine
end

