-- ==== Sys2Proof/Certificates/Slice0/Obligations.lean ====
section
/-! DEFINITION. The statements for the provers, about the model and in terms of the rules of spec/. A statement about a
packet says how its bytes decode and what `exec` answers as an explicit next state, so that it is its frame and its
completion as well: the fields not named keep their values. The list `inputs` of the moves to come is the model's own
(notes/assumptions/3): a move that is taken leaves it, and no rule of the spec is cited for that. -/

open Sys2Proof Sys2Proof.Machine Sys2Proof.Config

/-! ### Encoding -/

/-- R40, R55, R56, R59: the decoder reads a well-formed instruction back from its own bytes and leaves what follows it. -/
def Obligations.DecodeReadsEncodedInstruction : Prop :=
  ∀ (i : Instr) (rest : List Byte), WellFormed i = true → decode (encode i ++ rest) = .ok (i, rest)

/-- R59, R60: whatever the decoder reads is well formed, and its encoding is the bytes read. -/
def Obligations.EncodeWritesDecodedInstruction : Prop :=
  ∀ (bs : List Byte) (i : Instr) (rest : List Byte),
    decode bs = .ok (i, rest) → WellFormed i = true ∧ encode i ++ rest = bs

/-- R59: every command byte selects exactly one row, and it is the row of the mnemonic the command map gives it. -/
def Obligations.CommandByteSelectsOneRow : Prop :=
  ∀ cmd : Byte, (opcodeTable.filter fun r => r.selects cmd).map (fun r => r.mnemonic) = [commandMnemonic cmd]

/-- R55, R59: words written out from the encoding, one or more for each family. -/
def Obligations.SampleWordsDecode : Prop :=
  decodeTableWord 16 0x5521 = some (.trig 0x55) ∧ decodeTableWord 16 0x8A50 = some (.aspd50 0x8A) ∧
  decodeTableWord 16 0xFF2F = some (.agrp 0x2F 0xFF) ∧ decodeTableWord 16 0x1367 = some (.fgrp60 0x67 0x13) ∧
  decodeTableWord 16 0x1368 = some (.fgrp68 0x13) ∧ decodeTableWord 16 0x056E = some (.binl 0x05) ∧
  decodeTableWord 24 0xF3AB7B = some (.cvbit 0xAB 0xF3) ∧ decodeTableWord 24 0x020173 = some (.unk3x70 0x73 0x01 0x02) ∧
  decodeTableWord 16 0x01FF = some (.unk2x80 0xFF 0x01)

/-- R56: the length of a packet is 3 exactly when the high nibble of its command byte is 7, and the decoder takes that many
bytes whatever the arguments are. -/
def Obligations.LengthFromHighNibble : Prop :=
  ∀ (cmd arg1 arg2 : Byte) (rest : List Byte),
    frameLength cmd = (if cmd.toNat / 16 = 7 then 3 else 2) ∧
    ∃ i, decode (cmd :: arg1 :: arg2 :: rest) = .ok (i, (cmd :: arg1 :: arg2 :: rest).drop (frameLength cmd))

/-! ### The 2-byte commands -/

/-- R98, NOP. -/
def Obligations.NoOperationPacket : Prop :=
  ∀ (a : Byte) (rest : List Byte) (s : State),
    decode (0x00 :: a :: rest) = .ok (.nop a, rest) ∧
    exec (.nop a) s = .next { s with pair := .idle, evLog := s.evLog ++ [.raw2 0x00 a, .noOperation a] }

/-- R90, TRIG. -/
def Obligations.TriggerPulsePacket : Prop :=
  ∀ (a : Byte) (rest : List Byte) (s : State),
    decode (0x21 :: a :: rest) = .ok (.trig a, rest) ∧
    exec (.trig a) s = .next { s with pair := .idle, evLog := s.evLog ++ [.raw2 0x21 a, .triggerPulse a] }

/-- R91, MCUR: the argument as a signed 8-bit value (R11). -/
def Obligations.MotorCurrentPacket : Prop :=
  ∀ (a : Byte) (rest : List Byte) (s : State),
    decode (0x23 :: a :: rest) = .ok (.mcur a, rest) ∧
    exec (.mcur a) s = .next { s with
      pair := .idle
      evLog := s.evLog ++ [.raw2 0x23 a, .motorCurrent (if a.toNat < 128 then a.toNat else (a.toNat : Int) - 256)] }

/-- R95, MLOAD: the argument as a signed 8-bit value (R11). -/
def Obligations.MotorLoadPacket : Prop :=
  ∀ (a : Byte) (rest : List Byte) (s : State),
    decode (0x26 :: a :: rest) = .ok (.mload a, rest) ∧
    exec (.mload a) s = .next { s with
      pair := .idle
      evLog := s.evLog ++ [.raw2 0x26 a, .motorLoad (if a.toNat < 128 then a.toNat else (a.toNat : Int) - 256)] }

/-- R92, ASPD, 0x24 and 0x50: the same event, speed in bits 6:0, direction in bit 7. -/
def Obligations.ActualSpeedPacket : Prop :=
  ∀ (a : Byte) (rest : List Byte) (s : State),
    decode (0x24 :: a :: rest) = .ok (.aspd24 a, rest) ∧ decode (0x50 :: a :: rest) = .ok (.aspd50 a, rest) ∧
    exec (.aspd24 a) s = .next { s with
      pair := .idle
      evLog := s.evLog ++ [.raw2 0x24 a, .actualSpeed (BitVec.ofNat 7 (a.toNat % 128)) (decide (128 ≤ a.toNat))] } ∧
    exec (.aspd50 a) s = .next { s with
      pair := .idle
      evLog := s.evLog ++ [.raw2 0x50 a, .actualSpeed (BitVec.ofNat 7 (a.toNat % 128)) (decide (128 ≤ a.toNat))] }

/-- R93, RSPD, 0x25 and 0x51: the same event, speed in bits 6:0, direction in bit 7. -/
def Obligations.RequestedSpeedPacket : Prop :=
  ∀ (a : Byte) (rest : List Byte) (s : State),
    decode (0x25 :: a :: rest) = .ok (.rspd25 a, rest) ∧ decode (0x51 :: a :: rest) = .ok (.rspd51 a, rest) ∧
    exec (.rspd25 a) s = .next { s with
      pair := .idle
      evLog := s.evLog ++ [.raw2 0x25 a, .requestedSpeed (BitVec.ofNat 7 (a.toNat % 128)) (decide (128 ≤ a.toNat))] } ∧
    exec (.rspd51 a) s = .next { s with
      pair := .idle
      evLog := s.evLog ++ [.raw2 0x51 a, .requestedSpeed (BitVec.ofNat 7 (a.toNat % 128)) (decide (128 ≤ a.toNat))] }

/-- R94, DSPD. -/
def Obligations.DccSpeedPacket : Prop :=
  ∀ (a : Byte) (rest : List Byte) (s : State),
    decode (0x52 :: a :: rest) = .ok (.dspd a, rest) ∧
    exec (.dspd a) s = .next { s with
      pair := .idle
      evLog := s.evLog ++ [.raw2 0x52 a, .dccSpeed (BitVec.ofNat 7 (a.toNat % 128)) (decide (128 ≤ a.toNat))] }

/-- R96, AGRP, 0x28 to 0x2F. -/
def Obligations.AnalogGroupPacket : Prop :=
  ∀ (cmd a : Byte) (rest : List Byte) (s : State), 0x28 ≤ cmd.toNat → cmd.toNat ≤ 0x2F →
    decode (cmd :: a :: rest) = .ok (.agrp cmd a, rest) ∧
    exec (.agrp cmd a) s = .next { s with
      pair := .idle
      evLog := s.evLog ++ [.raw2 cmd a, .analogGroup ((cmd.toNat : Int) - 0x28 + s.params.analogGroupBase) a] }

/-- R97, ADIR: 0x30 is group 1 and 0x31 is group 2. -/
def Obligations.AnalogDirectPacket : Prop :=
  ∀ (a : Byte) (rest : List Byte) (s : State),
    decode (0x30 :: a :: rest) = .ok (.adir 0x30 a, rest) ∧ decode (0x31 :: a :: rest) = .ok (.adir 0x31 a, rest) ∧
    exec (.adir 0x30 a) s =
      .next { s with pair := .idle, evLog := s.evLog ++ [.raw2 0x30 a, .analogDirect 1 a] } ∧
    exec (.adir 0x31 a) s =
      .next { s with pair := .idle, evLog := s.evLog ++ [.raw2 0x31 a, .analogDirect 2 a] }

/-- R89, AUX, 0x40 to 0x43. -/
def Obligations.AuxGroupPacket : Prop :=
  ∀ (cmd a : Byte) (rest : List Byte) (s : State), 0x40 ≤ cmd.toNat → cmd.toNat ≤ 0x43 →
    decode (cmd :: a :: rest) = .ok (.aux cmd a, rest) ∧
    exec (.aux cmd a) s = .next { s with
      pair := .idle
      evLog := s.evLog ++ [.raw2 cmd a, .auxGroup ((cmd.toNat : Int) - 0x40 + s.params.auxGroupBase) a] }

/-- R85, FGRP, 0x60 to 0x67 and 0x68: the group is `cmd - 0x60`, the mask passes through whole. -/
def Obligations.FunctionGroupPacket : Prop :=
  ∀ (a : Byte) (rest : List Byte) (s : State),
    (∀ cmd : Byte, 0x60 ≤ cmd.toNat → cmd.toNat ≤ 0x67 →
      decode (cmd :: a :: rest) = .ok (.fgrp60 cmd a, rest) ∧
      exec (.fgrp60 cmd a) s = .next { s with
        pair := .idle
        evLog := s.evLog ++ [.raw2 cmd a, .functionGroup (cmd.toNat - 0x60) a] }) ∧
    decode (0x68 :: a :: rest) = .ok (.fgrp68 a, rest) ∧
    exec (.fgrp68 a) s =
      .next { s with pair := .idle, evLog := s.evLog ++ [.raw2 0x68 a, .functionGroup 8 a] }

/-- R101, MCTL: passed through verbatim, neither stored nor acted on. -/
def Obligations.ModuleControlPacket : Prop :=
  ∀ (a : Byte) (rest : List Byte) (s : State),
    decode (0x6C :: a :: rest) = .ok (.mctl a, rest) ∧
    exec (.mctl a) s = .next { s with pair := .idle, evLog := s.evLog ++ [.raw2 0x6C a, .moduleControl a] }

/-- R86, BIN: one number, or every number from 1 to 127 in ascending order when bits 6:0 are 0. -/
def Obligations.BinaryStatePacket : Prop :=
  ∀ (a : Byte) (rest : List Byte) (s : State),
    decode (0x6D :: a :: rest) = .ok (.bin a, rest) ∧
    exec (.bin a) s = .next { s with
      pair := .idle
      evLog := s.evLog ++ .raw2 0x6D a ::
        (if a.toNat % 128 = 0 then
          (List.range' 1 127).map fun n => .binaryState (BitVec.ofNat 7 n) (decide (128 ≤ a.toNat))
        else [.binaryState (BitVec.ofNat 7 (a.toNat % 128)) (decide (128 ≤ a.toNat))]) }

/-- R103, UNK2 and UNK3: a frame whose command byte lies outside the named opcodes decodes to one of the 27 unknown
instructions with its own bytes, and each of them emits the raw event of its length and UnknownMessage, cancels a pending
pairing and sets `drain_unknown`; no other instruction changes `drain_unknown`. -/
def Obligations.UnknownOpcodePacket : Prop :=
  (∀ (cmd a b : Byte) (rest : List Byte), isUnknownOpcode cmd = true → ∃ i ∈ unknownInstrs cmd a b,
    decode (cmd :: a :: b :: rest) = .ok (i, (cmd :: a :: b :: rest).drop (frameLength cmd)) ∧
    WellFormed i = true ∧ i.cmd = cmd ∧ i.arg1 = a) ∧
  (∀ (cmd a b : Byte), ∀ i ∈ unknownInstrs cmd a b, WellFormed i = true → isUnknownOpcode i.cmd = true ∧ ∀ s : State,
    exec i s = .next { s with
      pair := .idle
      evLog := s.evLog ++ [rawEvent i.cmd i.arg1 i.arg2, .unknownMessage i.cmd i.arg1]
      drainUnknown := true }) ∧
  (∀ (i : Instr) (s t : State), WellFormed i = true → isUnknownOpcode i.cmd = false → exec i s = .next t →
    t.drainUnknown = s.drainUnknown)

/-! ### The pairings -/

/-- R87, BINL: arms AwBSH with the argument cached, whatever was pending. -/
def Obligations.BinaryStateLowPacket : Prop :=
  ∀ (a : Byte) (rest : List Byte) (s : State),
    decode (0x6E :: a :: rest) = .ok (.binl a, rest) ∧
    exec (.binl a) s = .next { s with
      pair := .awaitingBinaryStateHigh
      pairLow := a
      evLog := s.evLog ++ [.raw2 0x6E a] }

/-- R88, BINH: the 15-bit number from both packets if AwBSH was pending, no event otherwise; Idle either way. -/
def Obligations.BinaryStateHighPacket : Prop :=
  ∀ (a : Byte) (rest : List Byte) (s : State),
    decode (0x6F :: a :: rest) = .ok (.binh a, rest) ∧
    exec (.binh a) s = .next { s with
      pair := .idle
      evLog := s.evLog ++ .raw2 0x6F a ::
        (if s.pair = .awaitingBinaryStateHigh then
          [.binaryStateLong (BitVec.ofNat 15 (a.toNat * 128 + s.pairLow.toNat % 128)) (decide (128 ≤ s.pairLow.toNat))]
        else []) }

/-- R99, MADL: arms AwMAH with the argument cached, whatever was pending. -/
def Obligations.MasterAddressLowPacket : Prop :=
  ∀ (a : Byte) (rest : List Byte) (s : State),
    decode (0x5E :: a :: rest) = .ok (.madl a, rest) ∧
    exec (.madl a) s = .next { s with
      pair := .awaitingMasterAddressHigh
      pairLow := a
      evLog := s.evLog ++ [.raw2 0x5E a] }

/-- R100, MADH: the 16-bit address from both packets if AwMAH was pending, no event otherwise; Idle either way. -/
def Obligations.MasterAddressHighPacket : Prop :=
  ∀ (a : Byte) (rest : List Byte) (s : State),
    decode (0x5F :: a :: rest) = .ok (.madh a, rest) ∧
    exec (.madh a) s = .next { s with
      pair := .idle
      evLog := s.evLog ++ .raw2 0x5F a ::
        (if s.pair = .awaitingMasterAddressHigh then
          [.masterAddress (BitVec.ofNat 16 (a.toNat * 256 + s.pairLow.toNat))]
        else []) }

/-! ### CV access -/

/-- R112, CVCHK, behind the selector check of R107: a storage CV costs one read, an index CV none, and the
acknowledgment is requested exactly when the byte is `a`. The fields `answers` and `draws` and
the value `answerAt` are the model's form of a draw (notes/assumptions/9), and no rule of the spec is cited for them. -/
def Obligations.CvByteCheckPacket : Prop :=
  ∀ (v a : Byte) (rest : List Byte) (s : State),
    decode (0x77 :: v :: a :: rest) = .ok (.cvchk v a, rest) ∧
    exec (.cvchk v a) s = .next
      (if isValidCV v s.slaveAddr = false then
        { s with pair := .idle, evLog := s.evLog ++ [.raw3 0x77 v a] }
      else if isIndexCV s.params.indexCvKey v = true then
        { s with pair := .idle, evLog := s.evLog ++ .raw3 0x77 v a :: ackEvents (s.cvIndex == a) }
      else
        { s with
          pair := .idle
          evLog := s.evLog ++ .raw3 0x77 v a :: .readCV v s.cvIndex (s.answerAt 0) :: ackEvents (s.answerAt 0 == a)
          answers := s.answers.drop 1
          draws := s.draws + 1 })

/-- R113, CVWR, behind the selector check of R107: an index CV takes the byte and is acknowledged unconditionally; a
storage CV costs one write, acknowledged exactly when the resulting value is the requested one. The fields
`answers` and `draws` and the value `answerAt` are the model's form of a draw (notes/assumptions/9), and no rule of the
spec is cited for them. -/
def Obligations.CvByteWritePacket : Prop :=
  ∀ (v a : Byte) (rest : List Byte) (s : State),
    decode (0x7F :: v :: a :: rest) = .ok (.cvwr v a, rest) ∧
    exec (.cvwr v a) s = .next
      (if isValidCV v s.slaveAddr = false then
        { s with pair := .idle, evLog := s.evLog ++ [.raw3 0x7F v a] }
      else if isIndexCV s.params.indexCvKey v = true then
        { s with pair := .idle, cvIndex := a, evLog := s.evLog ++ [.raw3 0x7F v a, .ackPulse] }
      else
        { s with
          pair := .idle
          evLog := s.evLog ++
            .raw3 0x7F v a :: .writeCV v s.cvIndex a (s.answerAt 0) :: ackEvents (s.answerAt 0 == a)
          answers := s.answers.drop 1
          draws := s.draws + 1 })

/-- R114, CVBIT, behind the selector check of R107: the pattern is tested before any read; the byte is read in both modes;
a write stores the byte with bit `P` as `B`, a check compares bit `P` with `B`. The fields `answers` and `draws` and
the value `answerAt` are the model's form of a draw (notes/assumptions/9), and no rule of the spec is cited for them. -/
def Obligations.CvBitPacket : Prop :=
  ∀ (v a : Byte) (rest : List Byte) (s : State),
    decode (0x7B :: v :: a :: rest) = .ok (.cvbit v a, rest) ∧
    exec (.cvbit v a) s = .next
      (let p := a.toNat % 8
       let b := a.getLsbD 3
       let cur := if isIndexCV s.params.indexCvKey v = true then s.cvIndex else s.answerAt 0
       if isValidCV v s.slaveAddr = false ∨ a.toNat / 32 ≠ 7 then
        { s with pair := .idle, evLog := s.evLog ++ [.raw3 0x7B v a] }
      else if isIndexCV s.params.indexCvKey v = true then
        if a.getLsbD 4 = true then
          { s with pair := .idle, cvIndex := withBit cur p b, evLog := s.evLog ++ [.raw3 0x7B v a, .ackPulse] }
        else { s with pair := .idle, evLog := s.evLog ++ .raw3 0x7B v a :: ackEvents (cur.getLsbD p == b) }
      else if a.getLsbD 4 = true then
        { s with
          pair := .idle
          evLog := s.evLog ++ .raw3 0x7B v a :: .readCV v s.cvIndex cur ::
            .writeCV v s.cvIndex (withBit cur p b) (s.answerAt 1) :: ackEvents (s.answerAt 1 == withBit cur p b)
          answers := s.answers.drop 2
          draws := s.draws + 2 }
      else
        { s with
          pair := .idle
          evLog := s.evLog ++ .raw3 0x7B v a :: .readCV v s.cvIndex cur :: ackEvents (cur.getLsbD p == b)
          answers := s.answers.drop 1
          draws := s.draws + 1 })

/-- R115, CVRST, behind the gate of R107: `V = 0x07` past the gate forwards the byte and acknowledges; any other selector,
or a closed gate, does nothing after the raw event. -/
def Obligations.CvFactoryResetPacket : Prop :=
  ∀ (v a : Byte) (rest : List Byte) (s : State),
    decode (0x7C :: v :: a :: rest) = .ok (.cvrst v a, rest) ∧
    exec (.cvrst v a) s = .next { s with
      pair := .idle
      evLog := s.evLog ++ .raw3 0x7C v a ::
        (if v = 0x07 ∧ (isValidCV v s.slaveAddr = true ∨ s.params.cvResetGate = .ungated) then
          [.factoryReset a, .ackPulse]
        else []) }

/-- R108: which selectors are valid for which identity. -/
def Obligations.SelectorValidity : Prop :=
  ∀ (v : Byte) (id : BitVec 2),
    isValidCV v id = true ↔
      128 ≤ v.toNat ∧ (v.toNat - 128 ≤ 3 ∨ 123 ≤ v.toNat - 128 ∨
        (4 ≤ v.toNat - 128 ∧ v.toNat - 128 ≤ 42 ∧ id = 1) ∨ (43 ≤ v.toNat - 128 ∧ v.toNat - 128 ≤ 82 ∧ id = 2) ∨
        (83 ≤ v.toNat - 128 ∧ v.toNat - 128 ≤ 122 ∧ id = 3))

/-- R109: the index CVs, under both keys, and that under RAW no valid selector is one. -/
def Obligations.IndexCvSelectors : Prop :=
  ∀ v : Byte,
    (isIndexCV .raw v = true ↔ v.toNat = 1 ∨ v.toNat = 124) ∧
    (isIndexCV .normalized v = true ↔ v.toNat = 0x81 ∨ v.toNat = 0xFC) ∧
    (∀ id : BitVec 2, isValidCV v id = true → isIndexCV .raw v = false)

/-- R117: what the parameters make of the CV opcodes: under RAW no step but Init writes `cv_index`; under GATED 0x7C never
acts; under NORMALIZED the index CVs are valid for every identity and 0x7F sets `cv_index`; under UNGATED `7C 07 A` acts
for every identity. -/
def Obligations.ParameterConsequences : Prop :=
  (∀ s t : State, s.params.indexCvKey = .raw → s.NoInitNext → step s = .next t → t.cvIndex = s.cvIndex) ∧
  (∀ (v a : Byte) (s : State), s.params.cvResetGate = .gated →
    exec (.cvrst v a) s = .next { s with pair := .idle, evLog := s.evLog ++ [.raw3 0x7C v a] }) ∧
  (∀ (v a : Byte) (s : State), s.params.indexCvKey = .normalized → v = 0x81 ∨ v = 0xFC →
    (∀ id : BitVec 2, isValidCV v id = true) ∧
    exec (.cvwr v a) s =
      .next { s with pair := .idle, cvIndex := a, evLog := s.evLog ++ [.raw3 0x7F v a, .ackPulse] }) ∧
  (∀ (a : Byte) (s : State), s.params.cvResetGate = .ungated →
    exec (.cvrst 0x07 a) s =
      .next { s with pair := .idle, evLog := s.evLog ++ [.raw3 0x7C 0x07 a, .factoryReset a, .ackPulse] })

/-! ### The interface operations -/

/-- R63: ByteArrived in each state of the assembler. A frame that meets a full queue is lost and the assembler returns to
EC all the same (R65). -/
def Obligations.ByteArrivedStep : Prop :=
  ∀ (b : Byte) (rest : List Input) (s : State), s.initDone = true → s.inputs = .byteArrived b.toNat :: rest →
    step s = .next
      (match s.faState with
      | .expectCommand => { s with inputs := rest, faCmd := b, faState := .expectArg1 }
      | .expectArg1 =>
        if s.faCmd.toNat / 16 = 7 then { s with inputs := rest, faArg1 := b, faState := .expectArg2 }
        else { (enqueue ⟨s.faCmd, b, 0x00⟩ s).2 with inputs := rest, faState := .expectCommand }
      | .expectArg2 => { (enqueue ⟨s.faCmd, s.faArg1, b⟩ s).2 with inputs := rest, faState := .expectCommand }
      | .undefined => { s with inputs := rest, faState := .expectCommand })

/-- R71: Enqueue drops the packet when the slot at `q_wr` is occupied, and otherwise fills it and moves the cursor. -/
def Obligations.EnqueueOperation : Prop :=
  ∀ (p : Packet) (s : State),
    enqueue p s =
      if (s.slotAt s.qWr).occ = true then (false, s)
      else (true, { s with
        slots := s.slots.set s.qWr ⟨true, p.cmd, p.arg1, p.arg2⟩
        qWr := (s.qWr + 1) % s.params.qcap })

/-- R66: Resync writes `fa_state` and nothing else, and a second one changes nothing more. -/
def Obligations.ResyncStep : Prop :=
  ∀ (rest : List Input) (s : State), s.initDone = true → s.inputs = .resync :: rest →
    step s = .next { s with inputs := rest, faState := .expectCommand } ∧
    step { s with inputs := .resync :: rest, faState := .expectCommand } =
      .next { s with inputs := rest, faState := .expectCommand }

/-- R75, R76: DrainStart sets the drain flags to 1, 0, 0; DrainEnd, enabled when the slot at `q_rd` is free, returns the
status the flags form and clears `drain_active` only. That PC moves with no move presented, and the list of statuses, are
the model's choice (notes/assumptions/4 and 12). -/
def Obligations.DrainStartAndEnd : Prop :=
  (∀ (rest : List Input) (s : State), s.initDone = true → s.drainActive = false → s.inputs = .drain :: rest →
    step s = .next { s with inputs := rest, drainActive := true, drainSeen := false, drainUnknown := false }) ∧
  (∀ s : State, s.initDone = true → s.drainActive = true → s.ProcessingNext → (s.slotAt s.qRd).occ = false →
    step s = .next { s with
      inputs := s.inputs.tail
      drainActive := false
      drainReturns := s.drainReturns ++
        [if s.drainSeen = false then .noMessages else if s.drainUnknown = true then .unknownPresent else .decoded] })

/-- R131, R132: Init leaves the values of R35, computes the identity from its argument or from storage, persists the
default when storage's answer is no identity, and does not clear the log. The fields `answers` and `draws` and
the value `answerAt` are the model's form of a draw (notes/assumptions/9), and no rule of the spec is cited for them. -/
def Obligations.InitStep : Prop :=
  (∀ (n : Nat) (rest : List Input) (s : State), n ≤ 0xFF → s.drainActive = false →
    s.inputs = .init (.explicit n) :: rest →
    step s = .next { s.initialised (if n = 2 then 2 else if n = 3 then 3 else 1) with inputs := rest }) ∧
  (∀ (rest : List Input) (s : State), s.drainActive = false → s.inputs = .init .storage :: rest →
    step s = .next
      (let sel := s.params.identityCvSelector
       let idx := s.params.cvIndexReset
       let v := s.answerAt 0
       if v = 1 ∨ v = 2 ∨ v = 3 then
        { s.initialised (v.setWidth 2) with
          inputs := rest
          evLog := s.evLog ++ [.readCV sel idx v]
          answers := s.answers.drop 1
          draws := s.draws + 1 }
      else
        { s.initialised 1 with
          inputs := rest
          evLog := s.evLog ++ [.readCV sel idx v, .writeCV sel idx 1 (s.answerAt 1)]
          answers := s.answers.drop 2
          draws := s.draws + 2 }))

/-- R73, R81: when PC moves inside a Drain and the frame in the slot at `q_rd` decodes to a well-formed instruction, the
step is `exec` of it with `drain_seen` set before, and the slot released and `q_rd` advanced after. That PC moves with no
move presented is the model's choice (notes/assumptions/4). -/
def Obligations.StepRunsTheDecodedPacket : Prop :=
  ∀ (i : Instr) (s : State), s.initDone = true → s.drainActive = true → s.ProcessingNext →
    (s.slotAt s.qRd).occ = true → decode (s.slotAt s.qRd).bytes = .ok (i, []) → WellFormed i = true →
    step s =
      match exec i { s with inputs := s.inputs.tail, drainSeen := true } with
      | .next t => .next { t with
          slots := t.slots.set t.qRd { t.slotAt t.qRd with occ := false }
          qRd := (t.qRd + 1) % t.params.qcap }
      | .fault f => .fault f
      | .refused r => .refused r

/-- R14, R133, R134, R138: the moves that have no move, and the inputs outside their type. That both stop as a refusal, and
under which name, is the model's choice (notes/assumptions/5). -/
def Obligations.MovesNotEnabled : Prop :=
  (∀ s : State, s.initDone = false → s.inputs.head? = some .resync ∨ s.inputs.head? = some .drain ∨
      s.inputs.head? = some .processing ∨ (∃ b : Nat, b ≤ 0xFF ∧ s.inputs.head? = some (.byteArrived b)) →
    step s = .refused .beforeInit) ∧
  (∀ s : State, s.initDone = true → s.drainActive = true → s.inputs.head? = some .drain →
    step s = .refused .drainNotReentrant) ∧
  (∀ s : State, s.drainActive = true → (s.inputs.head? = some (.init .storage) ∨
      ∃ n : Nat, n ≤ 0xFF ∧ s.inputs.head? = some (.init (.explicit n))) → step s = .refused .initDuringDrain) ∧
  (∀ s : State, s.initDone = true → s.drainActive = false → s.inputs.head? = some .processing →
    step s = .refused .noDrainInProgress) ∧
  (∀ (s : State) (n : Nat), 0xFF < n → s.inputs.head? = some (.byteArrived n) → step s = .refused .byteOutOfType) ∧
  (∀ (s : State) (n : Nat), 0xFF < n → s.inputs.head? = some (.init (.explicit n)) →
    step s = .refused .identityOutOfType)

/-- R124: a byte and a resync that are ready together may go in either order, and from ExpectCommand the two orders end in
different states of the assembler. -/
def Obligations.ByteAndResyncInEitherOrder : Prop :=
  ∀ (b : Byte) (s : State), s.initDone = true → s.faState = .expectCommand →
    runSteps 2 { s with inputs := [.byteArrived b.toNat, .resync] } =
      .next { s with inputs := [], faState := .expectCommand, faCmd := b } ∧
    runSteps 2 { s with inputs := [.resync, .byteArrived b.toNat] } =
      .next { s with inputs := [], faState := .expectArg1, faCmd := b }

/-! ### Invariants -/

/-- R35, R36: the reset state meets the invariant. The identity behind it is the model's choice
(notes/assumptions/1). -/
def Obligations.ResetMeetsInvariant : Prop := State.reset.Inv ∧ State.reset.FramesWf

/-- R36: every step keeps the invariants I1 to I5, for every move of every agent. -/
def Obligations.StepKeepsInvariant : Prop := ∀ s t : State, s.Inv → step s = .next t → t.Inv

/-- R131, R36: an Init brings any state with at least one slot into the invariant. -/
def Obligations.InitEstablishesInvariant : Prop :=
  ∀ s : State, s.drainActive = false → 1 ≤ s.params.qcap →
    (s.inputs.head? = some (.init .storage) ∨ ∃ n : Nat, n ≤ 0xFF ∧ s.inputs.head? = some (.init (.explicit n))) →
    ∃ t, step s = .next t ∧ t.Inv ∧ t.FramesWf

/-- R19, R63: only a 3-byte command waits for a second argument and every queued 2-byte packet carries `arg2 = 0x00`;
every step keeps this. -/
def Obligations.StepKeepsFramesWellFormed : Prop := ∀ s t : State, s.FramesWf → step s = .next t → t.FramesWf

/-! ### Rules of the whole machine -/

/-- R21, R73: a packet of any opcode touches only the consumer's side: the pairing register, `cv_index`, `drain_unknown`,
the log and the storage draws. -/
def Obligations.PacketFrame : Prop :=
  ∀ (i : Instr) (s : State), ∃ t, exec i s = .next t ∧
    { t with pair := s.pair, pairLow := s.pairLow, cvIndex := s.cvIndex, drainUnknown := s.drainUnknown,
             evLog := s.evLog, answers := s.answers, draws := s.draws } = s

/-- R82, R130: every packet logs exactly one raw event, as its first event, in the form of its length. -/
def Obligations.RawEventFirst : Prop :=
  ∀ (i : Instr) (s t : State), exec i s = .next t →
    ∃ es, t.evLog = s.evLog ++ rawEvent i.cmd i.arg1 i.arg2 :: es ∧ ∀ e ∈ es, e.kind ≠ .raw2 ∧ e.kind ≠ .raw3

/-- R116: a packet requests at most one acknowledgment, always as its last event, and only a CV packet requests one. -/
def Obligations.AcknowledgmentComesLast : Prop :=
  ∀ (i : Instr) (s t : State), exec i s = .next t →
    ∃ es, t.evLog = s.evLog ++ es ∧ .ackPulse ∉ es.dropLast ∧
      (.ackPulse ∈ es → isCvOpcode i.cmd = true)

/-- R44, R110, R39: every storage call of a packet is in the log once, draws one answer, and carries the value `cv_index`
has before the packet as its index. The fields `draws` and `answers` are the model's form of a draw (notes/assumptions/9). -/
def Obligations.StorageCallsAreLoggedOnce : Prop :=
  ∀ (i : Instr) (s t : State), exec i s = .next t →
    ∃ es, t.evLog = s.evLog ++ es ∧ t.draws = s.draws + es.countP (fun e => e.isStorageCall) ∧
      t.answers = s.answers.drop (es.countP fun e => e.isStorageCall) ∧
      ∀ e ∈ es, ∀ idx, e.storageIndex = some idx → idx = s.cvIndex

/-- R24, R125: only Init writes the module identity. -/
def Obligations.IdentityFixedForTheSession : Prop :=
  ∀ s t : State, s.NoInitNext → step s = .next t → t.slaveAddr = s.slaveAddr

/-- R104: an opener followed at once by its continuation yields the assembled value; any packet between them but the
opener itself makes the continuation yield nothing after its raw event. -/
def Obligations.PairingNeedsAdjacentPackets : Prop :=
  ∀ (lo hi : Byte) (s : State),
    (∃ t u, exec (.binl lo) s = .next t ∧ exec (.binh hi) t = .next u ∧ u.pair = .idle ∧
      u.evLog = s.evLog ++ [.raw2 0x6E lo, .raw2 0x6F hi,
        .binaryStateLong (BitVec.ofNat 15 (hi.toNat * 128 + lo.toNat % 128)) (decide (128 ≤ lo.toNat))]) ∧
    (∃ t u, exec (.madl lo) s = .next t ∧ exec (.madh hi) t = .next u ∧ u.pair = .idle ∧
      u.evLog = s.evLog ++ [.raw2 0x5E lo, .raw2 0x5F hi, .masterAddress (BitVec.ofNat 16 (hi.toNat * 256 + lo.toNat))]) ∧
    (∀ (i : Instr) (t u : State), WellFormed i = true → i.cmd ≠ 0x6E → exec (.binl lo) s = .next t → i.cmd ≠ 0x6F →
      exec i t = .next u →
      exec (.binh hi) u = .next { u with pair := .idle, evLog := u.evLog ++ [.raw2 0x6F hi] }) ∧
    (∀ (i : Instr) (t u : State), WellFormed i = true → i.cmd ≠ 0x5E → exec (.madl lo) s = .next t → i.cmd ≠ 0x5F →
      exec i t = .next u →
      exec (.madh hi) u = .next { u with pair := .idle, evLog := u.evLog ++ [.raw2 0x5F hi] })

/-- R105, R22: a byte, a resync, the start of a Drain and its end leave a pending pairing as it is; only a processed packet
or an Init touches it. -/
def Obligations.OnlyPacketsTouchThePairing : Prop :=
  ∀ s t : State, s.NoInitNext → (s.ProcessingNext → s.drainActive = true → (s.slotAt s.qRd).occ = false) →
    step s = .next t → t.pair = s.pair ∧ t.pairLow = s.pairLow

/-- R129: no opcode but the four CV opcodes depends on the identity. -/
def Obligations.OtherIdentitiesSeeTheSameCommands : Prop :=
  ∀ (i : Instr) (id : BitVec 2) (s t : State), isCvOpcode i.cmd = false → exec i s = .next t →
    exec i { s with slaveAddr := id } = .next { t with slaveAddr := id }

/-- R31: which handlers the host registers changes neither the core's state nor its events. -/
def Obligations.HandlersNeverChangeTheCore : Prop :=
  ∀ (h : List EventKind) (s t : State), step s = .next t →
    step { s with params := { s.params with handlers := h } } =
      .next { t with params := { t.params with handlers := h } }

/-- R30, R51: steps only append to the log, and BA, IT, DrainStart and DrainEnd append nothing. -/
def Obligations.LogOnlyGrows : Prop :=
  ∀ s t : State, step s = .next t →
    ∃ es, t.evLog = s.evLog ++ es ∧
      (s.NoInitNext → (s.ProcessingNext → s.drainActive = true → (s.slotAt s.qRd).occ = false) → es = [])

/-- R122, R21: a byte or a resync in the middle of a Drain changes nothing the Drain has computed: the pairing, the CV
index, the identity, the drain flags, `q_rd`, the log, the draws and every occupied slot. -/
def Obligations.PreemptionLeavesTheDrain : Prop :=
  ∀ s t : State, (s.inputs.head? = some .resync ∨ ∃ b : Nat, s.inputs.head? = some (.byteArrived b)) →
    step s = .next t →
    { t with faState := s.faState, faCmd := s.faCmd, faArg1 := s.faArg1, slots := s.slots, qWr := s.qWr,
             inputs := s.inputs } = s ∧
    ∀ k, (s.slotAt k).occ = true → t.slotAt k = s.slotAt k

/-- R68, R79, R80: a byte stream that starts at a command byte, with no Resync and no Drain in it, leaves in the queue what
was there followed by its complete frames in order, cut off at `QCAP` packets; the rest of an incomplete frame waits in
the assembler; nothing is emitted. -/
def Obligations.ByteStreamBecomesItsFrames : Prop :=
  ∀ (bs : List Byte) (rest : List Input) (s : State), s.Inv → s.faState = .expectCommand →
    s.inputs = byteMoves bs ++ rest →
    ∃ t, runSteps bs.length s = .next t ∧ t.queued = (s.queued ++ framesOf bs).take s.params.qcap ∧
      t.faState = assemblerAfter bs ∧ t.inputs = rest ∧ t.evLog = s.evLog

/-- R73, R74, R79: a consumer step takes the packet at the head of the queue and leaves the others in order. That PC moves
with no move presented is the model's choice (notes/assumptions/4). -/
def Obligations.ConsumerTakesTheHead : Prop :=
  ∀ (p : Packet) (ps : List Packet) (s : State), s.Inv → s.drainActive = true → s.ProcessingNext →
    s.queued = p :: ps →
    ∃ t es, step s = .next t ∧ t.queued = ps ∧ t.drainSeen = true ∧ t.drainActive = true ∧
      t.evLog = s.evLog ++ rawEvent p.cmd p.arg1 p.arg2 :: es

/-- R77, R28, R76: a Drain call with nothing else moving processes every queued packet and returns: NoMessages for an empty
queue, UnknownPresent if one of the packets has an unknown opcode, Decoded otherwise. That nothing else moves is the
premise R141 asks for, and it stands in the hypothesis on `inputs` (notes/assumptions/24). That the Drain goes on with no
move presented, and the list of statuses, are the model's choice (notes/assumptions/4 and 12). -/
def Obligations.DrainCallEmptiesTheQueue : Prop :=
  ∀ s : State, s.Inv → s.drainActive = false → s.inputs = [.drain] →
    ∃ t, runSteps (s.queued.length + 2) s = .next t ∧ t.drainActive = false ∧ t.queued = [] ∧ t.inputs = [] ∧
      t.drainReturns = s.drainReturns ++
        [if s.queued = [] then .noMessages
         else if s.queued.any (fun p => isUnknownOpcode p.cmd) = true then .unknownPresent else .decoded]
end

