-- ==== Sys2Proof/Laws/Decode.lean ====
section
/-! SUPPORT. Laws of the command map and of the frame length (30_encoding.md R56, R59): no two rows of the table overlap, so a
row that selects a command byte is the row the decoder takes. -/

namespace Sys2Proof

/-- No two rows share a command byte: on a bit both masks name, their patterns differ (R59). -/
theorem opcodeTable_disjoint :
    opcodeTable.Pairwise fun r q => (r.pattern ^^^ q.pattern) &&& (r.mask &&& q.mask) ≠ 0 := by decide

/-- Two rows that select the same command byte agree on every bit both masks name. -/
theorem OpRow.agree_of_selects {r q : OpRow} {cmd : Byte} (hr : r.selects cmd = true) (hq : q.selects cmd = true) :
    (r.pattern ^^^ q.pattern) &&& (r.mask &&& q.mask) = 0 := by
  simp only [OpRow.selects, inRow, beq_iff_eq] at hr hq
  rw [← hr, ← hq]
  ext i hi
  simp only [BitVec.getElem_and, BitVec.getElem_xor]
  cases cmd[i] <;> cases r.mask[i] <;> cases q.mask[i] <;> simp

/-- In a list of rows without overlap, the row that selects `cmd` is the one found. -/
theorem find_selecting_row {rows : List OpRow} {r : OpRow} {cmd : Byte}
    (hd : rows.Pairwise fun r q => (r.pattern ^^^ q.pattern) &&& (r.mask &&& q.mask) ≠ 0)
    (hr : r ∈ rows) (hs : r.selects cmd = true) : rows.find? (fun q => q.selects cmd) = some r := by
  induction rows with
  | nil => cases hr
  | cons q rows ih =>
    rw [List.pairwise_cons] at hd
    rcases List.mem_cons.mp hr with rfl | hmem
    · simp [hs]
    · have hq : q.selects cmd = false := by
        cases hqs : q.selects cmd with
        | false => rfl
        | true => exact absurd (OpRow.agree_of_selects hqs hs) (hd.1 r hmem)
      rw [List.find?_cons_of_neg (by simp [hq])]
      exact ih hd.2 hmem

/-- The decoder builds the instruction of the row that selects the command byte. -/
theorem decodeFrame_of_row (n : Nat) (hn : n < opcodeTable.length) {cmd : Byte}
    (hs : (opcodeTable[n]'hn).selects cmd = true) (arg1 arg2 : Byte) :
    decodeFrame cmd arg1 arg2 = (opcodeTable[n]'hn).build cmd arg1 arg2 := by
  unfold decodeFrame
  rw [find_selecting_row opcodeTable_disjoint (List.getElem_mem hn) hs]

theorem frameLength_of_three {cmd : Byte} (h : isThreeByte cmd = true) : frameLength cmd = 3 := by
  simp [frameLength, h]

theorem frameLength_of_two {cmd : Byte} (h : isThreeByte cmd = false) : frameLength cmd = 2 := by
  simp [frameLength, h]

/-- An instruction is encoded in as many bytes as its command byte says (R56). -/
theorem encode_length (i : Instr) : (encode i).length = frameLength i.cmd := by
  unfold encode frameLength
  split <;> rfl

end Sys2Proof
end

