-- ==== Sys2Proof/Laws/State.lean ====
section
/-! SUPPORT. One lemma per field per update of the state: what each update writes and that it leaves every other field. -/

namespace Sys2Proof.Machine

/-! ### emit -/

@[simp] theorem State.emit_faState (s : State) (e : Event) : (s.emit e).faState = s.faState := rfl
@[simp] theorem State.emit_faCmd (s : State) (e : Event) : (s.emit e).faCmd = s.faCmd := rfl
@[simp] theorem State.emit_faArg1 (s : State) (e : Event) : (s.emit e).faArg1 = s.faArg1 := rfl
@[simp] theorem State.emit_slots (s : State) (e : Event) : (s.emit e).slots = s.slots := rfl
@[simp] theorem State.emit_qWr (s : State) (e : Event) : (s.emit e).qWr = s.qWr := rfl
@[simp] theorem State.emit_qRd (s : State) (e : Event) : (s.emit e).qRd = s.qRd := rfl
@[simp] theorem State.emit_pair (s : State) (e : Event) : (s.emit e).pair = s.pair := rfl
@[simp] theorem State.emit_pairLow (s : State) (e : Event) : (s.emit e).pairLow = s.pairLow := rfl
@[simp] theorem State.emit_slaveAddr (s : State) (e : Event) : (s.emit e).slaveAddr = s.slaveAddr := rfl
@[simp] theorem State.emit_cvIndex (s : State) (e : Event) : (s.emit e).cvIndex = s.cvIndex := rfl
@[simp] theorem State.emit_drainActive (s : State) (e : Event) : (s.emit e).drainActive = s.drainActive := rfl
@[simp] theorem State.emit_drainSeen (s : State) (e : Event) : (s.emit e).drainSeen = s.drainSeen := rfl
@[simp] theorem State.emit_drainUnknown (s : State) (e : Event) : (s.emit e).drainUnknown = s.drainUnknown := rfl
@[simp] theorem State.emit_initDone (s : State) (e : Event) : (s.emit e).initDone = s.initDone := rfl
@[simp] theorem State.emit_evLog (s : State) (e : Event) : (s.emit e).evLog = s.evLog ++ [e] := rfl
@[simp] theorem State.emit_params (s : State) (e : Event) : (s.emit e).params = s.params := rfl
@[simp] theorem State.emit_drainReturns (s : State) (e : Event) : (s.emit e).drainReturns = s.drainReturns := rfl
@[simp] theorem State.emit_inputs (s : State) (e : Event) : (s.emit e).inputs = s.inputs := rfl
@[simp] theorem State.emit_answers (s : State) (e : Event) : (s.emit e).answers = s.answers := rfl
@[simp] theorem State.emit_draws (s : State) (e : Event) : (s.emit e).draws = s.draws := rfl

/-! ### emitAll -/

@[simp] theorem State.emitAll_faState (s : State) (es : List Event) : (s.emitAll es).faState = s.faState := rfl
@[simp] theorem State.emitAll_faCmd (s : State) (es : List Event) : (s.emitAll es).faCmd = s.faCmd := rfl
@[simp] theorem State.emitAll_faArg1 (s : State) (es : List Event) : (s.emitAll es).faArg1 = s.faArg1 := rfl
@[simp] theorem State.emitAll_slots (s : State) (es : List Event) : (s.emitAll es).slots = s.slots := rfl
@[simp] theorem State.emitAll_qWr (s : State) (es : List Event) : (s.emitAll es).qWr = s.qWr := rfl
@[simp] theorem State.emitAll_qRd (s : State) (es : List Event) : (s.emitAll es).qRd = s.qRd := rfl
@[simp] theorem State.emitAll_pair (s : State) (es : List Event) : (s.emitAll es).pair = s.pair := rfl
@[simp] theorem State.emitAll_pairLow (s : State) (es : List Event) : (s.emitAll es).pairLow = s.pairLow := rfl
@[simp] theorem State.emitAll_slaveAddr (s : State) (es : List Event) : (s.emitAll es).slaveAddr = s.slaveAddr := rfl
@[simp] theorem State.emitAll_cvIndex (s : State) (es : List Event) : (s.emitAll es).cvIndex = s.cvIndex := rfl
@[simp] theorem State.emitAll_drainActive (s : State) (es : List Event) : (s.emitAll es).drainActive = s.drainActive := rfl
@[simp] theorem State.emitAll_drainSeen (s : State) (es : List Event) : (s.emitAll es).drainSeen = s.drainSeen := rfl
@[simp] theorem State.emitAll_drainUnknown (s : State) (es : List Event) : (s.emitAll es).drainUnknown = s.drainUnknown := rfl
@[simp] theorem State.emitAll_initDone (s : State) (es : List Event) : (s.emitAll es).initDone = s.initDone := rfl
@[simp] theorem State.emitAll_evLog (s : State) (es : List Event) : (s.emitAll es).evLog = s.evLog ++ es := rfl
@[simp] theorem State.emitAll_params (s : State) (es : List Event) : (s.emitAll es).params = s.params := rfl
@[simp] theorem State.emitAll_drainReturns (s : State) (es : List Event) : (s.emitAll es).drainReturns = s.drainReturns := rfl
@[simp] theorem State.emitAll_inputs (s : State) (es : List Event) : (s.emitAll es).inputs = s.inputs := rfl
@[simp] theorem State.emitAll_answers (s : State) (es : List Event) : (s.emitAll es).answers = s.answers := rfl
@[simp] theorem State.emitAll_draws (s : State) (es : List Event) : (s.emitAll es).draws = s.draws := rfl

/-! ### armPairing -/

@[simp] theorem State.armPairing_faState (s : State) (p : PairState) (low : Byte) : (s.armPairing p low).faState = s.faState := rfl
@[simp] theorem State.armPairing_faCmd (s : State) (p : PairState) (low : Byte) : (s.armPairing p low).faCmd = s.faCmd := rfl
@[simp] theorem State.armPairing_faArg1 (s : State) (p : PairState) (low : Byte) : (s.armPairing p low).faArg1 = s.faArg1 := rfl
@[simp] theorem State.armPairing_slots (s : State) (p : PairState) (low : Byte) : (s.armPairing p low).slots = s.slots := rfl
@[simp] theorem State.armPairing_qWr (s : State) (p : PairState) (low : Byte) : (s.armPairing p low).qWr = s.qWr := rfl
@[simp] theorem State.armPairing_qRd (s : State) (p : PairState) (low : Byte) : (s.armPairing p low).qRd = s.qRd := rfl
@[simp] theorem State.armPairing_pair (s : State) (p : PairState) (low : Byte) : (s.armPairing p low).pair = p := rfl
@[simp] theorem State.armPairing_pairLow (s : State) (p : PairState) (low : Byte) : (s.armPairing p low).pairLow = low := rfl
@[simp] theorem State.armPairing_slaveAddr (s : State) (p : PairState) (low : Byte) : (s.armPairing p low).slaveAddr = s.slaveAddr := rfl
@[simp] theorem State.armPairing_cvIndex (s : State) (p : PairState) (low : Byte) : (s.armPairing p low).cvIndex = s.cvIndex := rfl
@[simp] theorem State.armPairing_drainActive (s : State) (p : PairState) (low : Byte) : (s.armPairing p low).drainActive = s.drainActive := rfl
@[simp] theorem State.armPairing_drainSeen (s : State) (p : PairState) (low : Byte) : (s.armPairing p low).drainSeen = s.drainSeen := rfl
@[simp] theorem State.armPairing_drainUnknown (s : State) (p : PairState) (low : Byte) : (s.armPairing p low).drainUnknown = s.drainUnknown := rfl
@[simp] theorem State.armPairing_initDone (s : State) (p : PairState) (low : Byte) : (s.armPairing p low).initDone = s.initDone := rfl
@[simp] theorem State.armPairing_evLog (s : State) (p : PairState) (low : Byte) : (s.armPairing p low).evLog = s.evLog := rfl
@[simp] theorem State.armPairing_params (s : State) (p : PairState) (low : Byte) : (s.armPairing p low).params = s.params := rfl
@[simp] theorem State.armPairing_drainReturns (s : State) (p : PairState) (low : Byte) : (s.armPairing p low).drainReturns = s.drainReturns := rfl
@[simp] theorem State.armPairing_inputs (s : State) (p : PairState) (low : Byte) : (s.armPairing p low).inputs = s.inputs := rfl
@[simp] theorem State.armPairing_answers (s : State) (p : PairState) (low : Byte) : (s.armPairing p low).answers = s.answers := rfl
@[simp] theorem State.armPairing_draws (s : State) (p : PairState) (low : Byte) : (s.armPairing p low).draws = s.draws := rfl

/-! ### clearPairing -/

@[simp] theorem State.clearPairing_faState (s : State) : (s.clearPairing).faState = s.faState := rfl
@[simp] theorem State.clearPairing_faCmd (s : State) : (s.clearPairing).faCmd = s.faCmd := rfl
@[simp] theorem State.clearPairing_faArg1 (s : State) : (s.clearPairing).faArg1 = s.faArg1 := rfl
@[simp] theorem State.clearPairing_slots (s : State) : (s.clearPairing).slots = s.slots := rfl
@[simp] theorem State.clearPairing_qWr (s : State) : (s.clearPairing).qWr = s.qWr := rfl
@[simp] theorem State.clearPairing_qRd (s : State) : (s.clearPairing).qRd = s.qRd := rfl
@[simp] theorem State.clearPairing_pair (s : State) : (s.clearPairing).pair = .idle := rfl
@[simp] theorem State.clearPairing_pairLow (s : State) : (s.clearPairing).pairLow = s.pairLow := rfl
@[simp] theorem State.clearPairing_slaveAddr (s : State) : (s.clearPairing).slaveAddr = s.slaveAddr := rfl
@[simp] theorem State.clearPairing_cvIndex (s : State) : (s.clearPairing).cvIndex = s.cvIndex := rfl
@[simp] theorem State.clearPairing_drainActive (s : State) : (s.clearPairing).drainActive = s.drainActive := rfl
@[simp] theorem State.clearPairing_drainSeen (s : State) : (s.clearPairing).drainSeen = s.drainSeen := rfl
@[simp] theorem State.clearPairing_drainUnknown (s : State) : (s.clearPairing).drainUnknown = s.drainUnknown := rfl
@[simp] theorem State.clearPairing_initDone (s : State) : (s.clearPairing).initDone = s.initDone := rfl
@[simp] theorem State.clearPairing_evLog (s : State) : (s.clearPairing).evLog = s.evLog := rfl
@[simp] theorem State.clearPairing_params (s : State) : (s.clearPairing).params = s.params := rfl
@[simp] theorem State.clearPairing_drainReturns (s : State) : (s.clearPairing).drainReturns = s.drainReturns := rfl
@[simp] theorem State.clearPairing_inputs (s : State) : (s.clearPairing).inputs = s.inputs := rfl
@[simp] theorem State.clearPairing_answers (s : State) : (s.clearPairing).answers = s.answers := rfl
@[simp] theorem State.clearPairing_draws (s : State) : (s.clearPairing).draws = s.draws := rfl

/-! ### setCvIndex -/

@[simp] theorem State.setCvIndex_faState (s : State) (v : Byte) : (s.setCvIndex v).faState = s.faState := rfl
@[simp] theorem State.setCvIndex_faCmd (s : State) (v : Byte) : (s.setCvIndex v).faCmd = s.faCmd := rfl
@[simp] theorem State.setCvIndex_faArg1 (s : State) (v : Byte) : (s.setCvIndex v).faArg1 = s.faArg1 := rfl
@[simp] theorem State.setCvIndex_slots (s : State) (v : Byte) : (s.setCvIndex v).slots = s.slots := rfl
@[simp] theorem State.setCvIndex_qWr (s : State) (v : Byte) : (s.setCvIndex v).qWr = s.qWr := rfl
@[simp] theorem State.setCvIndex_qRd (s : State) (v : Byte) : (s.setCvIndex v).qRd = s.qRd := rfl
@[simp] theorem State.setCvIndex_pair (s : State) (v : Byte) : (s.setCvIndex v).pair = s.pair := rfl
@[simp] theorem State.setCvIndex_pairLow (s : State) (v : Byte) : (s.setCvIndex v).pairLow = s.pairLow := rfl
@[simp] theorem State.setCvIndex_slaveAddr (s : State) (v : Byte) : (s.setCvIndex v).slaveAddr = s.slaveAddr := rfl
@[simp] theorem State.setCvIndex_cvIndex (s : State) (v : Byte) : (s.setCvIndex v).cvIndex = v := rfl
@[simp] theorem State.setCvIndex_drainActive (s : State) (v : Byte) : (s.setCvIndex v).drainActive = s.drainActive := rfl
@[simp] theorem State.setCvIndex_drainSeen (s : State) (v : Byte) : (s.setCvIndex v).drainSeen = s.drainSeen := rfl
@[simp] theorem State.setCvIndex_drainUnknown (s : State) (v : Byte) : (s.setCvIndex v).drainUnknown = s.drainUnknown := rfl
@[simp] theorem State.setCvIndex_initDone (s : State) (v : Byte) : (s.setCvIndex v).initDone = s.initDone := rfl
@[simp] theorem State.setCvIndex_evLog (s : State) (v : Byte) : (s.setCvIndex v).evLog = s.evLog := rfl
@[simp] theorem State.setCvIndex_params (s : State) (v : Byte) : (s.setCvIndex v).params = s.params := rfl
@[simp] theorem State.setCvIndex_drainReturns (s : State) (v : Byte) : (s.setCvIndex v).drainReturns = s.drainReturns := rfl
@[simp] theorem State.setCvIndex_inputs (s : State) (v : Byte) : (s.setCvIndex v).inputs = s.inputs := rfl
@[simp] theorem State.setCvIndex_answers (s : State) (v : Byte) : (s.setCvIndex v).answers = s.answers := rfl
@[simp] theorem State.setCvIndex_draws (s : State) (v : Byte) : (s.setCvIndex v).draws = s.draws := rfl

/-! ### setAssembler -/

@[simp] theorem State.setAssembler_faState (s : State) (st : FaState) (c a : Byte) : (s.setAssembler st c a).faState = st := rfl
@[simp] theorem State.setAssembler_faCmd (s : State) (st : FaState) (c a : Byte) : (s.setAssembler st c a).faCmd = c := rfl
@[simp] theorem State.setAssembler_faArg1 (s : State) (st : FaState) (c a : Byte) : (s.setAssembler st c a).faArg1 = a := rfl
@[simp] theorem State.setAssembler_slots (s : State) (st : FaState) (c a : Byte) : (s.setAssembler st c a).slots = s.slots := rfl
@[simp] theorem State.setAssembler_qWr (s : State) (st : FaState) (c a : Byte) : (s.setAssembler st c a).qWr = s.qWr := rfl
@[simp] theorem State.setAssembler_qRd (s : State) (st : FaState) (c a : Byte) : (s.setAssembler st c a).qRd = s.qRd := rfl
@[simp] theorem State.setAssembler_pair (s : State) (st : FaState) (c a : Byte) : (s.setAssembler st c a).pair = s.pair := rfl
@[simp] theorem State.setAssembler_pairLow (s : State) (st : FaState) (c a : Byte) : (s.setAssembler st c a).pairLow = s.pairLow := rfl
@[simp] theorem State.setAssembler_slaveAddr (s : State) (st : FaState) (c a : Byte) : (s.setAssembler st c a).slaveAddr = s.slaveAddr := rfl
@[simp] theorem State.setAssembler_cvIndex (s : State) (st : FaState) (c a : Byte) : (s.setAssembler st c a).cvIndex = s.cvIndex := rfl
@[simp] theorem State.setAssembler_drainActive (s : State) (st : FaState) (c a : Byte) : (s.setAssembler st c a).drainActive = s.drainActive := rfl
@[simp] theorem State.setAssembler_drainSeen (s : State) (st : FaState) (c a : Byte) : (s.setAssembler st c a).drainSeen = s.drainSeen := rfl
@[simp] theorem State.setAssembler_drainUnknown (s : State) (st : FaState) (c a : Byte) : (s.setAssembler st c a).drainUnknown = s.drainUnknown := rfl
@[simp] theorem State.setAssembler_initDone (s : State) (st : FaState) (c a : Byte) : (s.setAssembler st c a).initDone = s.initDone := rfl
@[simp] theorem State.setAssembler_evLog (s : State) (st : FaState) (c a : Byte) : (s.setAssembler st c a).evLog = s.evLog := rfl
@[simp] theorem State.setAssembler_params (s : State) (st : FaState) (c a : Byte) : (s.setAssembler st c a).params = s.params := rfl
@[simp] theorem State.setAssembler_drainReturns (s : State) (st : FaState) (c a : Byte) : (s.setAssembler st c a).drainReturns = s.drainReturns := rfl
@[simp] theorem State.setAssembler_inputs (s : State) (st : FaState) (c a : Byte) : (s.setAssembler st c a).inputs = s.inputs := rfl
@[simp] theorem State.setAssembler_answers (s : State) (st : FaState) (c a : Byte) : (s.setAssembler st c a).answers = s.answers := rfl
@[simp] theorem State.setAssembler_draws (s : State) (st : FaState) (c a : Byte) : (s.setAssembler st c a).draws = s.draws := rfl

/-! ### popInput -/

@[simp] theorem State.popInput_faState (s : State) : (s.popInput).faState = s.faState := rfl
@[simp] theorem State.popInput_faCmd (s : State) : (s.popInput).faCmd = s.faCmd := rfl
@[simp] theorem State.popInput_faArg1 (s : State) : (s.popInput).faArg1 = s.faArg1 := rfl
@[simp] theorem State.popInput_slots (s : State) : (s.popInput).slots = s.slots := rfl
@[simp] theorem State.popInput_qWr (s : State) : (s.popInput).qWr = s.qWr := rfl
@[simp] theorem State.popInput_qRd (s : State) : (s.popInput).qRd = s.qRd := rfl
@[simp] theorem State.popInput_pair (s : State) : (s.popInput).pair = s.pair := rfl
@[simp] theorem State.popInput_pairLow (s : State) : (s.popInput).pairLow = s.pairLow := rfl
@[simp] theorem State.popInput_slaveAddr (s : State) : (s.popInput).slaveAddr = s.slaveAddr := rfl
@[simp] theorem State.popInput_cvIndex (s : State) : (s.popInput).cvIndex = s.cvIndex := rfl
@[simp] theorem State.popInput_drainActive (s : State) : (s.popInput).drainActive = s.drainActive := rfl
@[simp] theorem State.popInput_drainSeen (s : State) : (s.popInput).drainSeen = s.drainSeen := rfl
@[simp] theorem State.popInput_drainUnknown (s : State) : (s.popInput).drainUnknown = s.drainUnknown := rfl
@[simp] theorem State.popInput_initDone (s : State) : (s.popInput).initDone = s.initDone := rfl
@[simp] theorem State.popInput_evLog (s : State) : (s.popInput).evLog = s.evLog := rfl
@[simp] theorem State.popInput_params (s : State) : (s.popInput).params = s.params := rfl
@[simp] theorem State.popInput_drainReturns (s : State) : (s.popInput).drainReturns = s.drainReturns := rfl
@[simp] theorem State.popInput_inputs (s : State) : (s.popInput).inputs = s.inputs.tail := rfl
@[simp] theorem State.popInput_answers (s : State) : (s.popInput).answers = s.answers := rfl
@[simp] theorem State.popInput_draws (s : State) : (s.popInput).draws = s.draws := rfl

/-! ### writeSlot -/

@[simp] theorem State.writeSlot_faState (s : State) (i : Nat) (sl : Slot) : (s.writeSlot i sl).faState = s.faState := rfl
@[simp] theorem State.writeSlot_faCmd (s : State) (i : Nat) (sl : Slot) : (s.writeSlot i sl).faCmd = s.faCmd := rfl
@[simp] theorem State.writeSlot_faArg1 (s : State) (i : Nat) (sl : Slot) : (s.writeSlot i sl).faArg1 = s.faArg1 := rfl
@[simp] theorem State.writeSlot_slots (s : State) (i : Nat) (sl : Slot) : (s.writeSlot i sl).slots = s.slots.set i sl := rfl
@[simp] theorem State.writeSlot_qWr (s : State) (i : Nat) (sl : Slot) : (s.writeSlot i sl).qWr = s.qWr := rfl
@[simp] theorem State.writeSlot_qRd (s : State) (i : Nat) (sl : Slot) : (s.writeSlot i sl).qRd = s.qRd := rfl
@[simp] theorem State.writeSlot_pair (s : State) (i : Nat) (sl : Slot) : (s.writeSlot i sl).pair = s.pair := rfl
@[simp] theorem State.writeSlot_pairLow (s : State) (i : Nat) (sl : Slot) : (s.writeSlot i sl).pairLow = s.pairLow := rfl
@[simp] theorem State.writeSlot_slaveAddr (s : State) (i : Nat) (sl : Slot) : (s.writeSlot i sl).slaveAddr = s.slaveAddr := rfl
@[simp] theorem State.writeSlot_cvIndex (s : State) (i : Nat) (sl : Slot) : (s.writeSlot i sl).cvIndex = s.cvIndex := rfl
@[simp] theorem State.writeSlot_drainActive (s : State) (i : Nat) (sl : Slot) : (s.writeSlot i sl).drainActive = s.drainActive := rfl
@[simp] theorem State.writeSlot_drainSeen (s : State) (i : Nat) (sl : Slot) : (s.writeSlot i sl).drainSeen = s.drainSeen := rfl
@[simp] theorem State.writeSlot_drainUnknown (s : State) (i : Nat) (sl : Slot) : (s.writeSlot i sl).drainUnknown = s.drainUnknown := rfl
@[simp] theorem State.writeSlot_initDone (s : State) (i : Nat) (sl : Slot) : (s.writeSlot i sl).initDone = s.initDone := rfl
@[simp] theorem State.writeSlot_evLog (s : State) (i : Nat) (sl : Slot) : (s.writeSlot i sl).evLog = s.evLog := rfl
@[simp] theorem State.writeSlot_params (s : State) (i : Nat) (sl : Slot) : (s.writeSlot i sl).params = s.params := rfl
@[simp] theorem State.writeSlot_drainReturns (s : State) (i : Nat) (sl : Slot) : (s.writeSlot i sl).drainReturns = s.drainReturns := rfl
@[simp] theorem State.writeSlot_inputs (s : State) (i : Nat) (sl : Slot) : (s.writeSlot i sl).inputs = s.inputs := rfl
@[simp] theorem State.writeSlot_answers (s : State) (i : Nat) (sl : Slot) : (s.writeSlot i sl).answers = s.answers := rfl
@[simp] theorem State.writeSlot_draws (s : State) (i : Nat) (sl : Slot) : (s.writeSlot i sl).draws = s.draws := rfl

/-! ### advanceWrite -/

@[simp] theorem State.advanceWrite_faState (s : State) : (s.advanceWrite).faState = s.faState := rfl
@[simp] theorem State.advanceWrite_faCmd (s : State) : (s.advanceWrite).faCmd = s.faCmd := rfl
@[simp] theorem State.advanceWrite_faArg1 (s : State) : (s.advanceWrite).faArg1 = s.faArg1 := rfl
@[simp] theorem State.advanceWrite_slots (s : State) : (s.advanceWrite).slots = s.slots := rfl
@[simp] theorem State.advanceWrite_qWr (s : State) : (s.advanceWrite).qWr = (s.qWr + 1) % s.params.qcap := rfl
@[simp] theorem State.advanceWrite_qRd (s : State) : (s.advanceWrite).qRd = s.qRd := rfl
@[simp] theorem State.advanceWrite_pair (s : State) : (s.advanceWrite).pair = s.pair := rfl
@[simp] theorem State.advanceWrite_pairLow (s : State) : (s.advanceWrite).pairLow = s.pairLow := rfl
@[simp] theorem State.advanceWrite_slaveAddr (s : State) : (s.advanceWrite).slaveAddr = s.slaveAddr := rfl
@[simp] theorem State.advanceWrite_cvIndex (s : State) : (s.advanceWrite).cvIndex = s.cvIndex := rfl
@[simp] theorem State.advanceWrite_drainActive (s : State) : (s.advanceWrite).drainActive = s.drainActive := rfl
@[simp] theorem State.advanceWrite_drainSeen (s : State) : (s.advanceWrite).drainSeen = s.drainSeen := rfl
@[simp] theorem State.advanceWrite_drainUnknown (s : State) : (s.advanceWrite).drainUnknown = s.drainUnknown := rfl
@[simp] theorem State.advanceWrite_initDone (s : State) : (s.advanceWrite).initDone = s.initDone := rfl
@[simp] theorem State.advanceWrite_evLog (s : State) : (s.advanceWrite).evLog = s.evLog := rfl
@[simp] theorem State.advanceWrite_params (s : State) : (s.advanceWrite).params = s.params := rfl
@[simp] theorem State.advanceWrite_drainReturns (s : State) : (s.advanceWrite).drainReturns = s.drainReturns := rfl
@[simp] theorem State.advanceWrite_inputs (s : State) : (s.advanceWrite).inputs = s.inputs := rfl
@[simp] theorem State.advanceWrite_answers (s : State) : (s.advanceWrite).answers = s.answers := rfl
@[simp] theorem State.advanceWrite_draws (s : State) : (s.advanceWrite).draws = s.draws := rfl

/-! ### advanceRead -/

@[simp] theorem State.advanceRead_faState (s : State) : (s.advanceRead).faState = s.faState := rfl
@[simp] theorem State.advanceRead_faCmd (s : State) : (s.advanceRead).faCmd = s.faCmd := rfl
@[simp] theorem State.advanceRead_faArg1 (s : State) : (s.advanceRead).faArg1 = s.faArg1 := rfl
@[simp] theorem State.advanceRead_slots (s : State) : (s.advanceRead).slots = s.slots := rfl
@[simp] theorem State.advanceRead_qWr (s : State) : (s.advanceRead).qWr = s.qWr := rfl
@[simp] theorem State.advanceRead_qRd (s : State) : (s.advanceRead).qRd = (s.qRd + 1) % s.params.qcap := rfl
@[simp] theorem State.advanceRead_pair (s : State) : (s.advanceRead).pair = s.pair := rfl
@[simp] theorem State.advanceRead_pairLow (s : State) : (s.advanceRead).pairLow = s.pairLow := rfl
@[simp] theorem State.advanceRead_slaveAddr (s : State) : (s.advanceRead).slaveAddr = s.slaveAddr := rfl
@[simp] theorem State.advanceRead_cvIndex (s : State) : (s.advanceRead).cvIndex = s.cvIndex := rfl
@[simp] theorem State.advanceRead_drainActive (s : State) : (s.advanceRead).drainActive = s.drainActive := rfl
@[simp] theorem State.advanceRead_drainSeen (s : State) : (s.advanceRead).drainSeen = s.drainSeen := rfl
@[simp] theorem State.advanceRead_drainUnknown (s : State) : (s.advanceRead).drainUnknown = s.drainUnknown := rfl
@[simp] theorem State.advanceRead_initDone (s : State) : (s.advanceRead).initDone = s.initDone := rfl
@[simp] theorem State.advanceRead_evLog (s : State) : (s.advanceRead).evLog = s.evLog := rfl
@[simp] theorem State.advanceRead_params (s : State) : (s.advanceRead).params = s.params := rfl
@[simp] theorem State.advanceRead_drainReturns (s : State) : (s.advanceRead).drainReturns = s.drainReturns := rfl
@[simp] theorem State.advanceRead_inputs (s : State) : (s.advanceRead).inputs = s.inputs := rfl
@[simp] theorem State.advanceRead_answers (s : State) : (s.advanceRead).answers = s.answers := rfl
@[simp] theorem State.advanceRead_draws (s : State) : (s.advanceRead).draws = s.draws := rfl

/-! ### drawAnswer -/

@[simp] theorem State.drawAnswer_faState (s : State) : (s.drawAnswer).faState = s.faState := rfl
@[simp] theorem State.drawAnswer_faCmd (s : State) : (s.drawAnswer).faCmd = s.faCmd := rfl
@[simp] theorem State.drawAnswer_faArg1 (s : State) : (s.drawAnswer).faArg1 = s.faArg1 := rfl
@[simp] theorem State.drawAnswer_slots (s : State) : (s.drawAnswer).slots = s.slots := rfl
@[simp] theorem State.drawAnswer_qWr (s : State) : (s.drawAnswer).qWr = s.qWr := rfl
@[simp] theorem State.drawAnswer_qRd (s : State) : (s.drawAnswer).qRd = s.qRd := rfl
@[simp] theorem State.drawAnswer_pair (s : State) : (s.drawAnswer).pair = s.pair := rfl
@[simp] theorem State.drawAnswer_pairLow (s : State) : (s.drawAnswer).pairLow = s.pairLow := rfl
@[simp] theorem State.drawAnswer_slaveAddr (s : State) : (s.drawAnswer).slaveAddr = s.slaveAddr := rfl
@[simp] theorem State.drawAnswer_cvIndex (s : State) : (s.drawAnswer).cvIndex = s.cvIndex := rfl
@[simp] theorem State.drawAnswer_drainActive (s : State) : (s.drawAnswer).drainActive = s.drainActive := rfl
@[simp] theorem State.drawAnswer_drainSeen (s : State) : (s.drawAnswer).drainSeen = s.drainSeen := rfl
@[simp] theorem State.drawAnswer_drainUnknown (s : State) : (s.drawAnswer).drainUnknown = s.drainUnknown := rfl
@[simp] theorem State.drawAnswer_initDone (s : State) : (s.drawAnswer).initDone = s.initDone := rfl
@[simp] theorem State.drawAnswer_evLog (s : State) : (s.drawAnswer).evLog = s.evLog := rfl
@[simp] theorem State.drawAnswer_params (s : State) : (s.drawAnswer).params = s.params := rfl
@[simp] theorem State.drawAnswer_drainReturns (s : State) : (s.drawAnswer).drainReturns = s.drainReturns := rfl
@[simp] theorem State.drawAnswer_inputs (s : State) : (s.drawAnswer).inputs = s.inputs := rfl
@[simp] theorem State.drawAnswer_answers (s : State) : (s.drawAnswer).answers = s.answers.tail := rfl
@[simp] theorem State.drawAnswer_draws (s : State) : (s.drawAnswer).draws = s.draws + 1 := rfl

/-! ### markSeen -/

@[simp] theorem State.markSeen_faState (s : State) : (s.markSeen).faState = s.faState := rfl
@[simp] theorem State.markSeen_faCmd (s : State) : (s.markSeen).faCmd = s.faCmd := rfl
@[simp] theorem State.markSeen_faArg1 (s : State) : (s.markSeen).faArg1 = s.faArg1 := rfl
@[simp] theorem State.markSeen_slots (s : State) : (s.markSeen).slots = s.slots := rfl
@[simp] theorem State.markSeen_qWr (s : State) : (s.markSeen).qWr = s.qWr := rfl
@[simp] theorem State.markSeen_qRd (s : State) : (s.markSeen).qRd = s.qRd := rfl
@[simp] theorem State.markSeen_pair (s : State) : (s.markSeen).pair = s.pair := rfl
@[simp] theorem State.markSeen_pairLow (s : State) : (s.markSeen).pairLow = s.pairLow := rfl
@[simp] theorem State.markSeen_slaveAddr (s : State) : (s.markSeen).slaveAddr = s.slaveAddr := rfl
@[simp] theorem State.markSeen_cvIndex (s : State) : (s.markSeen).cvIndex = s.cvIndex := rfl
@[simp] theorem State.markSeen_drainActive (s : State) : (s.markSeen).drainActive = s.drainActive := rfl
@[simp] theorem State.markSeen_drainSeen (s : State) : (s.markSeen).drainSeen = true := rfl
@[simp] theorem State.markSeen_drainUnknown (s : State) : (s.markSeen).drainUnknown = s.drainUnknown := rfl
@[simp] theorem State.markSeen_initDone (s : State) : (s.markSeen).initDone = s.initDone := rfl
@[simp] theorem State.markSeen_evLog (s : State) : (s.markSeen).evLog = s.evLog := rfl
@[simp] theorem State.markSeen_params (s : State) : (s.markSeen).params = s.params := rfl
@[simp] theorem State.markSeen_drainReturns (s : State) : (s.markSeen).drainReturns = s.drainReturns := rfl
@[simp] theorem State.markSeen_inputs (s : State) : (s.markSeen).inputs = s.inputs := rfl
@[simp] theorem State.markSeen_answers (s : State) : (s.markSeen).answers = s.answers := rfl
@[simp] theorem State.markSeen_draws (s : State) : (s.markSeen).draws = s.draws := rfl

/-! ### markUnknown -/

@[simp] theorem State.markUnknown_faState (s : State) : (s.markUnknown).faState = s.faState := rfl
@[simp] theorem State.markUnknown_faCmd (s : State) : (s.markUnknown).faCmd = s.faCmd := rfl
@[simp] theorem State.markUnknown_faArg1 (s : State) : (s.markUnknown).faArg1 = s.faArg1 := rfl
@[simp] theorem State.markUnknown_slots (s : State) : (s.markUnknown).slots = s.slots := rfl
@[simp] theorem State.markUnknown_qWr (s : State) : (s.markUnknown).qWr = s.qWr := rfl
@[simp] theorem State.markUnknown_qRd (s : State) : (s.markUnknown).qRd = s.qRd := rfl
@[simp] theorem State.markUnknown_pair (s : State) : (s.markUnknown).pair = s.pair := rfl
@[simp] theorem State.markUnknown_pairLow (s : State) : (s.markUnknown).pairLow = s.pairLow := rfl
@[simp] theorem State.markUnknown_slaveAddr (s : State) : (s.markUnknown).slaveAddr = s.slaveAddr := rfl
@[simp] theorem State.markUnknown_cvIndex (s : State) : (s.markUnknown).cvIndex = s.cvIndex := rfl
@[simp] theorem State.markUnknown_drainActive (s : State) : (s.markUnknown).drainActive = s.drainActive := rfl
@[simp] theorem State.markUnknown_drainSeen (s : State) : (s.markUnknown).drainSeen = s.drainSeen := rfl
@[simp] theorem State.markUnknown_drainUnknown (s : State) : (s.markUnknown).drainUnknown = true := rfl
@[simp] theorem State.markUnknown_initDone (s : State) : (s.markUnknown).initDone = s.initDone := rfl
@[simp] theorem State.markUnknown_evLog (s : State) : (s.markUnknown).evLog = s.evLog := rfl
@[simp] theorem State.markUnknown_params (s : State) : (s.markUnknown).params = s.params := rfl
@[simp] theorem State.markUnknown_drainReturns (s : State) : (s.markUnknown).drainReturns = s.drainReturns := rfl
@[simp] theorem State.markUnknown_inputs (s : State) : (s.markUnknown).inputs = s.inputs := rfl
@[simp] theorem State.markUnknown_answers (s : State) : (s.markUnknown).answers = s.answers := rfl
@[simp] theorem State.markUnknown_draws (s : State) : (s.markUnknown).draws = s.draws := rfl

/-! ### startDrainFlags -/

@[simp] theorem State.startDrainFlags_faState (s : State) : (s.startDrainFlags).faState = s.faState := rfl
@[simp] theorem State.startDrainFlags_faCmd (s : State) : (s.startDrainFlags).faCmd = s.faCmd := rfl
@[simp] theorem State.startDrainFlags_faArg1 (s : State) : (s.startDrainFlags).faArg1 = s.faArg1 := rfl
@[simp] theorem State.startDrainFlags_slots (s : State) : (s.startDrainFlags).slots = s.slots := rfl
@[simp] theorem State.startDrainFlags_qWr (s : State) : (s.startDrainFlags).qWr = s.qWr := rfl
@[simp] theorem State.startDrainFlags_qRd (s : State) : (s.startDrainFlags).qRd = s.qRd := rfl
@[simp] theorem State.startDrainFlags_pair (s : State) : (s.startDrainFlags).pair = s.pair := rfl
@[simp] theorem State.startDrainFlags_pairLow (s : State) : (s.startDrainFlags).pairLow = s.pairLow := rfl
@[simp] theorem State.startDrainFlags_slaveAddr (s : State) : (s.startDrainFlags).slaveAddr = s.slaveAddr := rfl
@[simp] theorem State.startDrainFlags_cvIndex (s : State) : (s.startDrainFlags).cvIndex = s.cvIndex := rfl
@[simp] theorem State.startDrainFlags_drainActive (s : State) : (s.startDrainFlags).drainActive = true := rfl
@[simp] theorem State.startDrainFlags_drainSeen (s : State) : (s.startDrainFlags).drainSeen = false := rfl
@[simp] theorem State.startDrainFlags_drainUnknown (s : State) : (s.startDrainFlags).drainUnknown = false := rfl
@[simp] theorem State.startDrainFlags_initDone (s : State) : (s.startDrainFlags).initDone = s.initDone := rfl
@[simp] theorem State.startDrainFlags_evLog (s : State) : (s.startDrainFlags).evLog = s.evLog := rfl
@[simp] theorem State.startDrainFlags_params (s : State) : (s.startDrainFlags).params = s.params := rfl
@[simp] theorem State.startDrainFlags_drainReturns (s : State) : (s.startDrainFlags).drainReturns = s.drainReturns := rfl
@[simp] theorem State.startDrainFlags_inputs (s : State) : (s.startDrainFlags).inputs = s.inputs := rfl
@[simp] theorem State.startDrainFlags_answers (s : State) : (s.startDrainFlags).answers = s.answers := rfl
@[simp] theorem State.startDrainFlags_draws (s : State) : (s.startDrainFlags).draws = s.draws := rfl

/-! ### clearSession -/

@[simp] theorem State.clearSession_faState (s : State) : (s.clearSession).faState = .expectCommand := rfl
@[simp] theorem State.clearSession_faCmd (s : State) : (s.clearSession).faCmd = 0x00 := rfl
@[simp] theorem State.clearSession_faArg1 (s : State) : (s.clearSession).faArg1 = 0x00 := rfl
@[simp] theorem State.clearSession_slots (s : State) : (s.clearSession).slots = List.replicate s.params.qcap Slot.empty := rfl
@[simp] theorem State.clearSession_qWr (s : State) : (s.clearSession).qWr = 0 := rfl
@[simp] theorem State.clearSession_qRd (s : State) : (s.clearSession).qRd = 0 := rfl
@[simp] theorem State.clearSession_pair (s : State) : (s.clearSession).pair = .idle := rfl
@[simp] theorem State.clearSession_pairLow (s : State) : (s.clearSession).pairLow = 0x00 := rfl
@[simp] theorem State.clearSession_slaveAddr (s : State) : (s.clearSession).slaveAddr = s.slaveAddr := rfl
@[simp] theorem State.clearSession_cvIndex (s : State) : (s.clearSession).cvIndex = s.params.cvIndexReset := rfl
@[simp] theorem State.clearSession_drainActive (s : State) : (s.clearSession).drainActive = false := rfl
@[simp] theorem State.clearSession_drainSeen (s : State) : (s.clearSession).drainSeen = false := rfl
@[simp] theorem State.clearSession_drainUnknown (s : State) : (s.clearSession).drainUnknown = false := rfl
@[simp] theorem State.clearSession_initDone (s : State) : (s.clearSession).initDone = s.initDone := rfl
@[simp] theorem State.clearSession_evLog (s : State) : (s.clearSession).evLog = s.evLog := rfl
@[simp] theorem State.clearSession_params (s : State) : (s.clearSession).params = s.params := rfl
@[simp] theorem State.clearSession_drainReturns (s : State) : (s.clearSession).drainReturns = s.drainReturns := rfl
@[simp] theorem State.clearSession_inputs (s : State) : (s.clearSession).inputs = s.inputs := rfl
@[simp] theorem State.clearSession_answers (s : State) : (s.clearSession).answers = s.answers := rfl
@[simp] theorem State.clearSession_draws (s : State) : (s.clearSession).draws = s.draws := rfl

/-! ### startSession -/

@[simp] theorem State.startSession_faState (s : State) (id : BitVec 2) : (s.startSession id).faState = s.faState := rfl
@[simp] theorem State.startSession_faCmd (s : State) (id : BitVec 2) : (s.startSession id).faCmd = s.faCmd := rfl
@[simp] theorem State.startSession_faArg1 (s : State) (id : BitVec 2) : (s.startSession id).faArg1 = s.faArg1 := rfl
@[simp] theorem State.startSession_slots (s : State) (id : BitVec 2) : (s.startSession id).slots = s.slots := rfl
@[simp] theorem State.startSession_qWr (s : State) (id : BitVec 2) : (s.startSession id).qWr = s.qWr := rfl
@[simp] theorem State.startSession_qRd (s : State) (id : BitVec 2) : (s.startSession id).qRd = s.qRd := rfl
@[simp] theorem State.startSession_pair (s : State) (id : BitVec 2) : (s.startSession id).pair = s.pair := rfl
@[simp] theorem State.startSession_pairLow (s : State) (id : BitVec 2) : (s.startSession id).pairLow = s.pairLow := rfl
@[simp] theorem State.startSession_slaveAddr (s : State) (id : BitVec 2) : (s.startSession id).slaveAddr = id := rfl
@[simp] theorem State.startSession_cvIndex (s : State) (id : BitVec 2) : (s.startSession id).cvIndex = s.cvIndex := rfl
@[simp] theorem State.startSession_drainActive (s : State) (id : BitVec 2) : (s.startSession id).drainActive = s.drainActive := rfl
@[simp] theorem State.startSession_drainSeen (s : State) (id : BitVec 2) : (s.startSession id).drainSeen = s.drainSeen := rfl
@[simp] theorem State.startSession_drainUnknown (s : State) (id : BitVec 2) : (s.startSession id).drainUnknown = s.drainUnknown := rfl
@[simp] theorem State.startSession_initDone (s : State) (id : BitVec 2) : (s.startSession id).initDone = true := rfl
@[simp] theorem State.startSession_evLog (s : State) (id : BitVec 2) : (s.startSession id).evLog = s.evLog := rfl
@[simp] theorem State.startSession_params (s : State) (id : BitVec 2) : (s.startSession id).params = s.params := rfl
@[simp] theorem State.startSession_drainReturns (s : State) (id : BitVec 2) : (s.startSession id).drainReturns = s.drainReturns := rfl
@[simp] theorem State.startSession_inputs (s : State) (id : BitVec 2) : (s.startSession id).inputs = s.inputs := rfl
@[simp] theorem State.startSession_answers (s : State) (id : BitVec 2) : (s.startSession id).answers = s.answers := rfl
@[simp] theorem State.startSession_draws (s : State) (id : BitVec 2) : (s.startSession id).draws = s.draws := rfl

/-! ### drainEnd -/

@[simp] theorem drainEnd_faState (s : State) : (drainEnd s).faState = s.faState := rfl
@[simp] theorem drainEnd_faCmd (s : State) : (drainEnd s).faCmd = s.faCmd := rfl
@[simp] theorem drainEnd_faArg1 (s : State) : (drainEnd s).faArg1 = s.faArg1 := rfl
@[simp] theorem drainEnd_slots (s : State) : (drainEnd s).slots = s.slots := rfl
@[simp] theorem drainEnd_qWr (s : State) : (drainEnd s).qWr = s.qWr := rfl
@[simp] theorem drainEnd_qRd (s : State) : (drainEnd s).qRd = s.qRd := rfl
@[simp] theorem drainEnd_pair (s : State) : (drainEnd s).pair = s.pair := rfl
@[simp] theorem drainEnd_pairLow (s : State) : (drainEnd s).pairLow = s.pairLow := rfl
@[simp] theorem drainEnd_slaveAddr (s : State) : (drainEnd s).slaveAddr = s.slaveAddr := rfl
@[simp] theorem drainEnd_cvIndex (s : State) : (drainEnd s).cvIndex = s.cvIndex := rfl
@[simp] theorem drainEnd_drainActive (s : State) : (drainEnd s).drainActive = false := rfl
@[simp] theorem drainEnd_drainSeen (s : State) : (drainEnd s).drainSeen = s.drainSeen := rfl
@[simp] theorem drainEnd_drainUnknown (s : State) : (drainEnd s).drainUnknown = s.drainUnknown := rfl
@[simp] theorem drainEnd_initDone (s : State) : (drainEnd s).initDone = s.initDone := rfl
@[simp] theorem drainEnd_evLog (s : State) : (drainEnd s).evLog = s.evLog := rfl
@[simp] theorem drainEnd_params (s : State) : (drainEnd s).params = s.params := rfl
@[simp] theorem drainEnd_drainReturns (s : State) : (drainEnd s).drainReturns = s.drainReturns ++ [drainStatus s.drainSeen s.drainUnknown] := rfl
@[simp] theorem drainEnd_inputs (s : State) : (drainEnd s).inputs = s.inputs := rfl
@[simp] theorem drainEnd_answers (s : State) : (drainEnd s).answers = s.answers := rfl
@[simp] theorem drainEnd_draws (s : State) : (drainEnd s).draws = s.draws := rfl

end Sys2Proof.Machine
end

