-- ==== Sys2Proof/Laws/Ops.lean ====
section
/-! SUPPORT. One specification lemma for each shared operation: what it can do, said once. -/

namespace Sys2Proof.Machine

open Sys2Proof.Config

/-! ### Operands -/

theorem sext8_eq (a : Byte) : sext8 a = if a.toNat < 128 then (a.toNat : Int) else (a.toNat : Int) - 256 := by
  have h : a.getLsbD 7 = decide (128 ≤ a.toNat) := by
    revert a; decide
  unfold sext8
  rw [h]
  by_cases hc : 128 ≤ a.toNat
  · simp [hc, Nat.not_lt.mpr hc]
  · simp [hc, Nat.lt_of_not_le hc]

theorem topBit_eq (a : Byte) : topBit a = decide (128 ≤ a.toNat) := by
  revert a; decide

theorem lowSeven_eq (a : Byte) : lowSeven a = BitVec.ofNat 7 (a.toNat % 128) := by
  revert a; decide

theorem isThreeByte_eq (cmd : Byte) : isThreeByte cmd = decide (cmd.toNat / 16 = 7) := by
  revert cmd; decide

theorem frameLength_eq_two_iff (cmd : Byte) : frameLength cmd = 2 ↔ isThreeByte cmd = false := by
  unfold frameLength
  cases isThreeByte cmd <;> simp

/-! ### The log -/

theorem State.ackIf_eq (s : State) (due : Bool) : s.ackIf due = s.emitAll (ackEvents due) := by
  cases due
  · simp [State.ackIf, ackEvents, State.emitAll]
  · rfl

theorem State.emitAll_nil (s : State) : s.emitAll [] = s := by
  simp [State.emitAll]

/-! ### The stages before every dispatch -/

/-- RawNotify appends the raw event of the packet's length (R82). -/
theorem State.rawNotify_eq (s : State) (p : Packet) : s.rawNotify p = s.emit (rawEvent p.cmd p.arg1 p.arg2) := by
  unfold State.rawNotify rawEvent frameLength
  cases isThreeByte p.cmd <;> simp

/-- CancelPairing touches `pair` alone, and leaves it pending only for the awaited continuation (R83). -/
theorem State.cancelPairing_eq (s : State) (cmd : Byte) :
    s.cancelPairing cmd = { s with pair := pairAfterCancel s.pair cmd } := by
  unfold State.cancelPairing State.clearPairing
  cases hp : s.pair with
  | idle => simp [pairAfterCancel, ← hp]
  | awaitingBinaryStateHigh =>
    by_cases h : cmd = 0x6F
    · subst h; simp [PairState.expected, pairAfterCancel, ← hp]
    · rw [if_pos ⟨by simp, fun e => h (Option.some.inj e).symm⟩]
      simp only [pairAfterCancel, if_neg h]
  | awaitingMasterAddressHigh =>
    by_cases h : cmd = 0x5F
    · subst h; simp [PairState.expected, pairAfterCancel, ← hp]
    · rw [if_pos ⟨by simp, fun e => h (Option.some.inj e).symm⟩]
      simp only [pairAfterCancel, if_neg h]
  | unused => simp [PairState.expected, pairAfterCancel]

/-- Only the two continuations leave a pairing pending. -/
theorem pairAfterCancel_of_other {cmd : Byte} (h5 : cmd ≠ 0x5F) (h6 : cmd ≠ 0x6F) (p : PairState) :
    pairAfterCancel p cmd = .idle := by
  cases p <;> simp only [pairAfterCancel, if_neg h5, if_neg h6]

/-- No packet leaves `pair` at the unused code. -/
theorem pairAfterCancel_ne_unused (p : PairState) (cmd : Byte) : pairAfterCancel p cmd ≠ .unused := by
  cases p <;> simp only [pairAfterCancel] <;> (try split) <;> simp

/-- The state a dispatch stage starts from: the raw event logged and the pairing cancelled unless awaited (R81). -/
theorem processPacket_eq (p : Packet) (dispatch : State → State) (s : State) :
    processPacket p dispatch s =
      .next (dispatch { s with
        pair := pairAfterCancel s.pair p.cmd
        evLog := s.evLog ++ [rawEvent p.cmd p.arg1 p.arg2] }) := by
  unfold processPacket
  rw [State.rawNotify_eq, State.cancelPairing_eq]
  rfl

/-! ### CV storage -/

theorem State.nextAnswer_eq (s : State) : s.nextAnswer = s.answerAt 0 := by
  unfold State.nextAnswer State.answerAt
  cases s.answers <;> rfl

/-- A drawn answer shifts those after it by one. -/
theorem State.answerAt_drawAnswer (s : State) (n : Nat) : s.drawAnswer.answerAt n = s.answerAt (n + 1) := by
  unfold State.answerAt State.drawAnswer
  cases s.answers with
  | nil => simp [Nat.add_assoc, Nat.add_comm 1]
  | cons a as => simp [Nat.add_assoc, Nat.add_comm 1]

@[simp] theorem readCV_fst (sel idx : Byte) (s : State) : (readCV sel idx s).1 = s.answerAt 0 := s.nextAnswer_eq

@[simp] theorem readCV_snd (sel idx : Byte) (s : State) :
    (readCV sel idx s).2 = s.drawAnswer.emit (.readCV sel idx (s.answerAt 0)) := by
  rw [← State.nextAnswer_eq]; rfl

@[simp] theorem writeCV_fst (sel idx val : Byte) (s : State) : (writeCV sel idx val s).1 = s.answerAt 0 :=
  s.nextAnswer_eq

@[simp] theorem writeCV_snd (sel idx val : Byte) (s : State) :
    (writeCV sel idx val s).2 = s.drawAnswer.emit (.writeCV sel idx val (s.answerAt 0)) := by
  rw [← State.nextAnswer_eq]; rfl

/-- CurrentByte of an index CV is `cv_index`, without a storage call (R111). -/
theorem currentByte_index {v : Byte} {s : State} (h : isIndexCV s.params.indexCvKey v = true) :
    currentByte v s = (s.cvIndex, s) := by
  simp [currentByte, h]

/-- CurrentByte of a storage CV is the answer to one read (R111). -/
theorem currentByte_storage {v : Byte} {s : State} (h : isIndexCV s.params.indexCvKey v = false) :
    currentByte v s = (s.answerAt 0, s.drawAnswer.emit (.readCV v s.cvIndex (s.answerAt 0))) := by
  simp only [currentByte, h]
  exact Prod.ext (readCV_fst _ _ _) (readCV_snd _ _ _)

/-- A byte to an index CV goes to `cv_index` and is acknowledged (R113). -/
theorem storeCV_index {v val : Byte} {s : State} (h : isIndexCV s.params.indexCvKey v = true) :
    storeCV v val s = (s.setCvIndex val).emit .ackPulse := by
  simp [storeCV, h, State.ackIf]

/-- A byte to a storage CV is one write, acknowledged when the resulting value is the requested one (R113). -/
theorem storeCV_storage {v val : Byte} {s : State} (h : isIndexCV s.params.indexCvKey v = false) :
    storeCV v val s =
      (s.drawAnswer.emit (.writeCV v s.cvIndex val (s.answerAt 0))).emitAll (ackEvents (s.answerAt 0 == val)) := by
  simp only [storeCV, h]
  rw [← State.ackIf_eq]
  simp [writeCV, State.nextAnswer_eq]

/-- The gate of the CV opcodes: the body runs, or nothing happens (R107). -/
theorem cvAccess_cases (cmd v : Byte) (body : State → State) (s : State) :
    (isValidCV v s.slaveAddr = true ∨ (cmd = 0x7C ∧ s.params.cvResetGate = .ungated)) ∧
        cvAccess cmd v body s = body s ∨
      cvAccess cmd v body s = s := by
  unfold cvAccess
  split
  · exact .inl ⟨‹_›, rfl⟩
  · exact .inr rfl

/-! ### Init -/

/-- Init with an argument of one byte: the values of R35 and the identity of R132. -/
theorem initExplicit_eq {n : Nat} (hn : n ≤ 0xFF) (s : State) :
    initExplicit (BitVec.ofNat 8 n) s = s.initialised (if n = 2 then 2 else if n = 3 then 3 else 1) := by
  have hall : ∀ m : Fin 256, explicitIdentity (BitVec.ofNat 8 m.1) =
      (if m.1 = 2 then 2 else if m.1 = 3 then 3 else 1) := by decide +kernel
  have h : explicitIdentity (BitVec.ofNat 8 n) = (if n = 2 then 2 else if n = 3 then 3 else 1) :=
    hall ⟨n, by omega⟩
  unfold initExplicit
  rw [h]
  rfl

/-- Init from storage: one read, and a write of the default when the answer is no identity (R132). -/
theorem initStorage_eq (s : State) :
    initStorage s =
      if s.answerAt 0 = 1 ∨ s.answerAt 0 = 2 ∨ s.answerAt 0 = 3 then
        { s.initialised ((s.answerAt 0).setWidth 2) with
          evLog := s.evLog ++ [.readCV s.params.identityCvSelector s.params.cvIndexReset (s.answerAt 0)]
          answers := s.answers.drop 1
          draws := s.draws + 1 }
      else
        { s.initialised 1 with
          evLog := s.evLog ++ [.readCV s.params.identityCvSelector s.params.cvIndexReset (s.answerAt 0),
            .writeCV s.params.identityCvSelector s.params.cvIndexReset 1 (s.answerAt 1)]
          answers := s.answers.drop 2
          draws := s.draws + 2 } := by
  have hdrop : s.answers.tail.tail = s.answers.drop 2 := by
    cases s.answers with
    | nil => rfl
    | cons a as => cases as <;> rfl
  have hclear : ∀ n, s.clearSession.answerAt n = s.answerAt n := fun _ => rfl
  have hnext : (s.clearSession.drawAnswer.emit
      (.readCV s.params.identityCvSelector s.params.cvIndexReset (s.answerAt 0))).answerAt 0 = s.answerAt 1 := by
    show s.clearSession.drawAnswer.answerAt 0 = _
    rw [State.answerAt_drawAnswer]
    rfl
  unfold initStorage storedIdentity
  have hpair : ∀ x : Byte × State, x = (x.1, x.2) := fun _ => rfl
  rw [hpair (readCV _ _ _)]
  simp only [readCV_fst, readCV_snd, hclear, State.clearSession_params]
  by_cases h : s.answerAt 0 = 1 ∨ s.answerAt 0 = 2 ∨ s.answerAt 0 = 3
  · rcases h with h | h | h <;>
      simp [legalIdentity, h, State.startSession, State.clearSession, State.initialised, State.emit, State.drawAnswer,
        Slot.empty]
  · rw [if_neg h]
    simp only [not_or] at h
    have hnone : legalIdentity (s.answerAt 0) = none := by
      unfold legalIdentity
      rw [if_neg h.1, if_neg h.2.1, if_neg h.2.2]
    rw [hnone]
    simp only [writeCV_snd, hnext]
    simp [State.startSession, State.clearSession, State.initialised, State.emit, State.drawAnswer, Slot.empty, hdrop,
      idDefault]

/-! ### The moves -/

/-- Everything a step can do: a move of BA, IT, PC or ENV that is enabled, or waiting. -/
theorem step_cases {s t : State} (h : step s = .next t) :
    (∃ b rest, s.inputs = .byteArrived b :: rest ∧ b ≤ 0xFF ∧ s.initDone = true ∧
        t = byteArrived (BitVec.ofNat 8 b) s.popInput) ∨
    (∃ rest, s.inputs = .resync :: rest ∧ s.initDone = true ∧ t = resync s.popInput) ∨
    (∃ rest, s.inputs = .drain :: rest ∧ s.initDone = true ∧ s.drainActive = false ∧ t = drainStart s.popInput) ∨
    (∃ n rest, s.inputs = .init (.explicit n) :: rest ∧ n ≤ 0xFF ∧ s.drainActive = false ∧
        t = initExplicit (BitVec.ofNat 8 n) s.popInput) ∨
    (∃ rest, s.inputs = .init .storage :: rest ∧ s.drainActive = false ∧ t = initStorage s.popInput) ∨
    (s.ProcessingNext ∧ s.initDone = true ∧ s.drainActive = true ∧ (s.slotAt s.qRd).occ = false ∧
        t = drainEnd s.popInput) ∨
    (s.ProcessingNext ∧ s.initDone = true ∧ s.drainActive = true ∧ (s.slotAt s.qRd).occ = true ∧
        ∃ u, exec s.fetch s.popInput.markSeen = .next u ∧ t = u.releaseSlot) ∨
    (s.inputs = [] ∧ s.drainActive = false ∧ t = s) := by
  have hproc : ∀ u : State, processingStep u = .next t →
      u.initDone = true ∧ u.drainActive = true ∧
        ((u.slotAt u.qRd).occ = false ∧ t = drainEnd u ∨
          (u.slotAt u.qRd).occ = true ∧ ∃ w, exec u.fetch u.markSeen = .next w ∧ t = w.releaseSlot) := by
    intro u hu
    unfold processingStep at hu
    split at hu
    · cases hu
    split at hu
    · cases hu
    refine ⟨by simpa using ‹¬u.initDone = false›, by simpa using ‹¬u.drainActive = false›, ?_⟩
    split at hu
    · right
      refine ⟨‹_›, ?_⟩
      unfold consumeOne at hu
      split at hu
      · cases hu; exact ⟨_, ‹_›, rfl⟩
      · cases hu
      · cases hu
    · left
      cases hu
      exact ⟨by simpa using ‹¬(u.slotAt u.qRd).occ = true›, rfl⟩
  unfold step nextMove at h
  split at h
  · next hi =>
    have hpop : s.popInput = s := by
      have ht : s.inputs.tail = s.inputs := by rw [hi]; rfl
      unfold State.popInput
      rw [ht]
    unfold unprompted at h
    split at h
    · obtain ⟨h1, h2, h3 | ⟨h3, h4⟩⟩ := hproc s h
      · exact .inr (.inr (.inr (.inr (.inr (.inl ⟨.inl hi, h1, h2, h3.1, by rw [hpop]; exact h3.2⟩)))))
      · exact .inr (.inr (.inr (.inr (.inr (.inr (.inl ⟨.inl hi, h1, h2, h3, by rw [hpop]; exact h4⟩))))))
    · cases h
      exact .inr (.inr (.inr (.inr (.inr (.inr (.inr ⟨hi, by simpa using ‹¬s.drainActive = true›, rfl⟩))))))
  · next m rest hi =>
    cases m with
    | byteArrived b =>
      simp only [perform, byteStep] at h
      split at h
      · cases h
      split at h
      · cases h
      cases h
      exact .inl ⟨b, rest, hi, by omega, by simpa using ‹¬s.popInput.initDone = false›, rfl⟩
    | resync =>
      simp only [perform, resyncStep] at h
      split at h
      · cases h
      cases h
      exact .inr (.inl ⟨rest, hi, by simpa using ‹¬s.popInput.initDone = false›, rfl⟩)
    | drain =>
      simp only [perform, drainStep] at h
      split at h
      · cases h
      split at h
      · cases h
      cases h
      exact .inr (.inr (.inl ⟨rest, hi, by simpa using ‹¬s.popInput.initDone = false›,
        by simpa using ‹¬s.popInput.drainActive = true›, rfl⟩))
    | processing =>
      have hp : s.ProcessingNext := .inr (by simp [hi])
      obtain ⟨h1, h2, h3 | ⟨h3, h4⟩⟩ := hproc s.popInput h
      · exact .inr (.inr (.inr (.inr (.inr (.inl ⟨hp, h1, h2, h3.1, h3.2⟩)))))
      · exact .inr (.inr (.inr (.inr (.inr (.inr (.inl ⟨hp, h1, h2, h3, h4⟩))))))
    | init src =>
      cases src with
      | explicit n =>
        simp only [perform, initStep] at h
        split at h
        · cases h
        split at h
        · cases h
        cases h
        exact .inr (.inr (.inr (.inl ⟨n, rest, hi, by omega, by simpa using ‹¬s.popInput.drainActive = true›, rfl⟩)))
      | storage =>
        simp only [perform, initStep] at h
        split at h
        · cases h
        cases h
        exact .inr (.inr (.inr (.inr (.inl ⟨rest, hi, by simpa using ‹¬s.popInput.drainActive = true›, rfl⟩))))

@[simp] theorem runSteps_zero (s : State) : runSteps 0 s = .next s := rfl

theorem runSteps_succ (k : Nat) (s : State) :
    runSteps (k + 1) s =
      match step s with
      | .next t => runSteps k t
      | .fault f => .fault f
      | .refused r => .refused r := by
  refine (Host.Core.run.eq_2 Sys2Proof.core s k).trans ?_
  have hs : Sys2Proof.core.step s = step s := rfl
  rw [hs]
  cases step s <;> rfl

/-- A run goes on from the state its first step answers. -/
theorem runSteps_of_step {k : Nat} {s t : State} (h : step s = .next t) : runSteps (k + 1) s = runSteps k t := by
  rw [runSteps_succ, h]

end Sys2Proof.Machine
end

