-- ==== Sys2Proof/Laws/PerInstr.lean ====
section
/-! SUPPORT. Per-instruction laws. `RoundTrip`: the decoder reads a well-formed instruction back from its own bytes
(30_encoding.md R59). The number in each proof is the place of its row in `opcodeTable`. -/

namespace Sys2Proof.Laws.RoundTrip

/-- The packet of `i` decodes to `i`. -/
def Statement (i : Instr) : Prop := WellFormed i = true → decodeFrame i.cmd i.arg1 i.arg2 = i

theorem nop (arg1 : Byte) : Statement (.nop arg1) := fun _ =>
  decodeFrame_of_row 0 (by decide) (cmd := 0x00) (by decide) _ _

theorem trig (arg1 : Byte) : Statement (.trig arg1) := fun _ =>
  decodeFrame_of_row 1 (by decide) (cmd := 0x21) (by decide) _ _

theorem mcur (arg1 : Byte) : Statement (.mcur arg1) := fun _ =>
  decodeFrame_of_row 2 (by decide) (cmd := 0x23) (by decide) _ _

theorem aspd24 (arg1 : Byte) : Statement (.aspd24 arg1) := fun _ =>
  decodeFrame_of_row 3 (by decide) (cmd := 0x24) (by decide) _ _

theorem aspd50 (arg1 : Byte) : Statement (.aspd50 arg1) := fun _ =>
  decodeFrame_of_row 4 (by decide) (cmd := 0x50) (by decide) _ _

theorem rspd25 (arg1 : Byte) : Statement (.rspd25 arg1) := fun _ =>
  decodeFrame_of_row 5 (by decide) (cmd := 0x25) (by decide) _ _

theorem rspd51 (arg1 : Byte) : Statement (.rspd51 arg1) := fun _ =>
  decodeFrame_of_row 6 (by decide) (cmd := 0x51) (by decide) _ _

theorem mload (arg1 : Byte) : Statement (.mload arg1) := fun _ =>
  decodeFrame_of_row 7 (by decide) (cmd := 0x26) (by decide) _ _

theorem agrp (cmd arg1 : Byte) : Statement (.agrp cmd arg1) := fun h => decodeFrame_of_row 8 (by decide) h _ _

theorem adir (cmd arg1 : Byte) : Statement (.adir cmd arg1) := fun h => decodeFrame_of_row 9 (by decide) h _ _

theorem aux (cmd arg1 : Byte) : Statement (.aux cmd arg1) := fun h => decodeFrame_of_row 10 (by decide) h _ _

theorem dspd (arg1 : Byte) : Statement (.dspd arg1) := fun _ =>
  decodeFrame_of_row 11 (by decide) (cmd := 0x52) (by decide) _ _

theorem madl (arg1 : Byte) : Statement (.madl arg1) := fun _ =>
  decodeFrame_of_row 12 (by decide) (cmd := 0x5E) (by decide) _ _

theorem madh (arg1 : Byte) : Statement (.madh arg1) := fun _ =>
  decodeFrame_of_row 13 (by decide) (cmd := 0x5F) (by decide) _ _

theorem fgrp60 (cmd arg1 : Byte) : Statement (.fgrp60 cmd arg1) := fun h => decodeFrame_of_row 14 (by decide) h _ _

theorem fgrp68 (arg1 : Byte) : Statement (.fgrp68 arg1) := fun _ =>
  decodeFrame_of_row 15 (by decide) (cmd := 0x68) (by decide) _ _

theorem mctl (arg1 : Byte) : Statement (.mctl arg1) := fun _ =>
  decodeFrame_of_row 16 (by decide) (cmd := 0x6C) (by decide) _ _

theorem bin (arg1 : Byte) : Statement (.bin arg1) := fun _ =>
  decodeFrame_of_row 17 (by decide) (cmd := 0x6D) (by decide) _ _

theorem binl (arg1 : Byte) : Statement (.binl arg1) := fun _ =>
  decodeFrame_of_row 18 (by decide) (cmd := 0x6E) (by decide) _ _

theorem binh (arg1 : Byte) : Statement (.binh arg1) := fun _ =>
  decodeFrame_of_row 19 (by decide) (cmd := 0x6F) (by decide) _ _

theorem cvchk (arg1 arg2 : Byte) : Statement (.cvchk arg1 arg2) := fun _ =>
  decodeFrame_of_row 20 (by decide) (cmd := 0x77) (by decide) _ _

theorem cvbit (arg1 arg2 : Byte) : Statement (.cvbit arg1 arg2) := fun _ =>
  decodeFrame_of_row 21 (by decide) (cmd := 0x7B) (by decide) _ _

theorem cvrst (arg1 arg2 : Byte) : Statement (.cvrst arg1 arg2) := fun _ =>
  decodeFrame_of_row 22 (by decide) (cmd := 0x7C) (by decide) _ _

theorem cvwr (arg1 arg2 : Byte) : Statement (.cvwr arg1 arg2) := fun _ =>
  decodeFrame_of_row 23 (by decide) (cmd := 0x7F) (by decide) _ _

theorem unk3x70 (cmd arg1 arg2 : Byte) : Statement (.unk3x70 cmd arg1 arg2) := fun h => decodeFrame_of_row 24 (by decide) h _ _

theorem unk3x74 (cmd arg1 arg2 : Byte) : Statement (.unk3x74 cmd arg1 arg2) := fun h => decodeFrame_of_row 25 (by decide) h _ _

theorem unk3x76 (arg1 arg2 : Byte) : Statement (.unk3x76 arg1 arg2) := fun _ =>
  decodeFrame_of_row 26 (by decide) (cmd := 0x76) (by decide) _ _

theorem unk3x78 (cmd arg1 arg2 : Byte) : Statement (.unk3x78 cmd arg1 arg2) := fun h => decodeFrame_of_row 27 (by decide) h _ _

theorem unk3x7A (arg1 arg2 : Byte) : Statement (.unk3x7A arg1 arg2) := fun _ =>
  decodeFrame_of_row 28 (by decide) (cmd := 0x7A) (by decide) _ _

theorem unk3x7D (arg1 arg2 : Byte) : Statement (.unk3x7D arg1 arg2) := fun _ =>
  decodeFrame_of_row 29 (by decide) (cmd := 0x7D) (by decide) _ _

theorem unk3x7E (arg1 arg2 : Byte) : Statement (.unk3x7E arg1 arg2) := fun _ =>
  decodeFrame_of_row 30 (by decide) (cmd := 0x7E) (by decide) _ _

theorem unk2x01 (arg1 : Byte) : Statement (.unk2x01 arg1) := fun _ =>
  decodeFrame_of_row 31 (by decide) (cmd := 0x01) (by decide) _ _

theorem unk2x02 (cmd arg1 : Byte) : Statement (.unk2x02 cmd arg1) := fun h => decodeFrame_of_row 32 (by decide) h _ _

theorem unk2x04 (cmd arg1 : Byte) : Statement (.unk2x04 cmd arg1) := fun h => decodeFrame_of_row 33 (by decide) h _ _

theorem unk2x08 (cmd arg1 : Byte) : Statement (.unk2x08 cmd arg1) := fun h => decodeFrame_of_row 34 (by decide) h _ _

theorem unk2x10 (cmd arg1 : Byte) : Statement (.unk2x10 cmd arg1) := fun h => decodeFrame_of_row 35 (by decide) h _ _

theorem unk2x20 (arg1 : Byte) : Statement (.unk2x20 arg1) := fun _ =>
  decodeFrame_of_row 36 (by decide) (cmd := 0x20) (by decide) _ _

theorem unk2x22 (arg1 : Byte) : Statement (.unk2x22 arg1) := fun _ =>
  decodeFrame_of_row 37 (by decide) (cmd := 0x22) (by decide) _ _

theorem unk2x27 (arg1 : Byte) : Statement (.unk2x27 arg1) := fun _ =>
  decodeFrame_of_row 38 (by decide) (cmd := 0x27) (by decide) _ _

theorem unk2x32 (cmd arg1 : Byte) : Statement (.unk2x32 cmd arg1) := fun h => decodeFrame_of_row 39 (by decide) h _ _

theorem unk2x34 (cmd arg1 : Byte) : Statement (.unk2x34 cmd arg1) := fun h => decodeFrame_of_row 40 (by decide) h _ _

theorem unk2x38 (cmd arg1 : Byte) : Statement (.unk2x38 cmd arg1) := fun h => decodeFrame_of_row 41 (by decide) h _ _

theorem unk2x44 (cmd arg1 : Byte) : Statement (.unk2x44 cmd arg1) := fun h => decodeFrame_of_row 42 (by decide) h _ _

theorem unk2x48 (cmd arg1 : Byte) : Statement (.unk2x48 cmd arg1) := fun h => decodeFrame_of_row 43 (by decide) h _ _

theorem unk2x53 (arg1 : Byte) : Statement (.unk2x53 arg1) := fun _ =>
  decodeFrame_of_row 44 (by decide) (cmd := 0x53) (by decide) _ _

theorem unk2x54 (cmd arg1 : Byte) : Statement (.unk2x54 cmd arg1) := fun h => decodeFrame_of_row 45 (by decide) h _ _

theorem unk2x58 (cmd arg1 : Byte) : Statement (.unk2x58 cmd arg1) := fun h => decodeFrame_of_row 46 (by decide) h _ _

theorem unk2x5C (cmd arg1 : Byte) : Statement (.unk2x5C cmd arg1) := fun h => decodeFrame_of_row 47 (by decide) h _ _

theorem unk2x69 (arg1 : Byte) : Statement (.unk2x69 arg1) := fun _ =>
  decodeFrame_of_row 48 (by decide) (cmd := 0x69) (by decide) _ _

theorem unk2x6A (cmd arg1 : Byte) : Statement (.unk2x6A cmd arg1) := fun h => decodeFrame_of_row 49 (by decide) h _ _

theorem unk2x80 (cmd arg1 : Byte) : Statement (.unk2x80 cmd arg1) := fun h => decodeFrame_of_row 50 (by decide) h _ _

end Sys2Proof.Laws.RoundTrip
end

