-- ==== Sys2Proof/Laws/Queue.lean ====
section
/-! SUPPORT. The queue as a list of packets: what Enqueue and the release of a slot do to it, and that they keep its canonical
form (10_state.md R36 I4, 41_packet_queue.md R71, R73, R79). -/

namespace Sys2Proof.Machine

/-! ### Slots -/

theorem State.slotAt_writeSlot_self {s : State} {i : Nat} (h : i < s.slots.length) (sl : Slot) :
    (s.writeSlot i sl).slotAt i = sl := by
  simp [State.slotAt, h]

theorem State.slotAt_writeSlot_ne {s : State} {i j : Nat} (h : i ≠ j) (sl : Slot) :
    (s.writeSlot i sl).slotAt j = s.slotAt j := by
  simp [State.slotAt, List.getD, h]

/-- Two distances from the read cursor reach the same slot only if they are equal. -/
theorem cursor_injective {r n i j : Nat} (hi : i < n) (hj : j < n) (h : (r + i) % n = (r + j) % n) : i = j :=
  (Nat.ModEq.add_left_cancel' r h).eq_of_lt_of_lt hi hj

/-! ### What the queue depends on -/

theorem State.fromHead_congr {s t : State} (hs : t.slots = s.slots) (hr : t.qRd = s.qRd) (hp : t.params = s.params)
    (i : Nat) : t.fromHead i = s.fromHead i := by
  simp [State.fromHead, State.slotAt, hs, hr, hp]

theorem State.holdsPackets_congr {s t : State} (hs : t.slots = s.slots) (hw : t.qWr = s.qWr) (hr : t.qRd = s.qRd)
    (hp : t.params = s.params) {k : Nat} (h : s.HoldsPackets k) : t.HoldsPackets k := by
  refine ⟨hp ▸ h.1, by rw [hw, hr, hp]; exact h.2.1, fun i hi => ?_⟩
  rw [State.fromHead_congr hs hr hp]
  exact h.2.2 i (hp ▸ hi)

theorem State.queueWf_congr {s t : State} (hs : t.slots = s.slots) (hw : t.qWr = s.qWr) (hr : t.qRd = s.qRd)
    (hp : t.params = s.params) (h : s.QueueWf) : t.QueueWf := by
  obtain ⟨h1, h2, k, h3⟩ := h
  exact ⟨by rw [hs, hp]; exact h1, by rw [hr, hp]; exact h2, k, State.holdsPackets_congr hs hw hr hp h3⟩

theorem State.queued_congr {s t : State} (hs : t.slots = s.slots) (hr : t.qRd = s.qRd) (hp : t.params = s.params) :
    t.queued = s.queued := by
  have hf : t.fromHead = s.fromHead := funext (State.fromHead_congr hs hr hp)
  simp [State.queued, hf, hp]

/-! ### The queue as a list -/

/-- A queue of `k` packets reads as the packets of its first `k` slots. -/
theorem State.queued_eq {s : State} {k : Nat} (h : s.HoldsPackets k) :
    s.queued = (List.range k).map fun i => (s.fromHead i).packet := by
  obtain ⟨hk, -, hocc⟩ := h
  unfold State.queued
  obtain ⟨d, hd⟩ : ∃ d, s.params.qcap = k + d := ⟨s.params.qcap - k, by omega⟩
  rw [hd, List.range_add, List.map_append]
  have hfull : ∀ x ∈ (List.range k).map s.fromHead, x.occ = true := by
    intro x hx
    obtain ⟨i, hi, rfl⟩ := List.mem_map.mp hx
    have := List.mem_range.mp hi
    rw [hocc i (by omega)]
    simpa using this
  rw [List.takeWhile_append_of_pos hfull]
  have hrest : (((List.range d).map (k + ·)).map s.fromHead).takeWhile (fun x => x.occ) = [] := by
    cases d with
    | zero => rfl
    | succ d =>
      rw [List.range_succ_eq_map]
      have : (s.fromHead k).occ = false := by rw [hocc k (by omega)]; simp
      simp [this]
  rw [hrest]
  simp

theorem State.queued_length {s : State} {k : Nat} (h : s.HoldsPackets k) : s.queued.length = k := by
  simp [State.queued_eq h]

/-- The slot at the write cursor is occupied exactly when the queue is full (R78). -/
theorem State.write_slot_occ {s : State} {k : Nat} (hr : s.qRd < s.params.qcap) (h : s.HoldsPackets k) :
    (s.slotAt s.qWr).occ = decide (k = s.params.qcap) := by
  obtain ⟨hk, hw, hocc⟩ := h
  rcases Nat.lt_or_ge k s.params.qcap with hlt | hge
  · have := hocc k hlt
    rw [State.fromHead, ← hw] at this
    rw [this]
    simp [Nat.ne_of_lt hlt]
  · have hkq : k = s.params.qcap := by omega
    have h0 := hocc 0 (by omega)
    rw [State.fromHead, Nat.add_zero, Nat.mod_eq_of_lt hr] at h0
    have hwr : s.qWr = s.qRd := by rw [hw, hkq, Nat.add_mod_right, Nat.mod_eq_of_lt hr]
    rw [hwr, h0]
    simp [hkq]
    omega

/-- The slot at the read cursor is occupied exactly when the queue holds a packet (R74). -/
theorem State.read_slot_occ {s : State} {k : Nat} (hr : s.qRd < s.params.qcap) (h : s.HoldsPackets k) :
    (s.slotAt s.qRd).occ = decide (0 < k) := by
  have h0 := h.2.2 0 (by omega)
  rwa [State.fromHead, Nat.add_zero, Nat.mod_eq_of_lt hr] at h0

/-! ### Enqueue -/

/-- Enqueue on a full queue changes nothing and says so (R71, R79). -/
theorem enqueue_full {s : State} (p : Packet) (h : (s.slotAt s.qWr).occ = true) : enqueue p s = (false, s) := by
  simp [enqueue, h]

/-- Enqueue on a queue with room fills the slot at `q_wr` and moves the cursor (R71). -/
theorem enqueue_free {s : State} (p : Packet) (h : (s.slotAt s.qWr).occ = false) :
    enqueue p s = (true, (s.writeSlot s.qWr ⟨true, p.cmd, p.arg1, p.arg2⟩).advanceWrite) := by
  simp [enqueue, h]

/-- Enqueue touches the slots and `q_wr` only. -/
theorem enqueue_frame (p : Packet) (s : State) :
    (enqueue p s).2 = { s with slots := (enqueue p s).2.slots, qWr := (enqueue p s).2.qWr } := by
  unfold enqueue
  split <;> rfl

/-- Enqueue with room for one more: the queue has the packet behind those it had, in canonical form (R71, R79). -/
theorem enqueue_appends {s : State} {k : Nat} (hl : s.slots.length = s.params.qcap) (hr : s.qRd < s.params.qcap)
    (h : s.HoldsPackets k) (hk : k < s.params.qcap) (p : Packet) :
    (enqueue p s).2.HoldsPackets (k + 1) ∧ (enqueue p s).2.queued = s.queued ++ [p] := by
  have hfree : (s.slotAt s.qWr).occ = false := by
    rw [State.write_slot_occ hr h]; simp [Nat.ne_of_lt hk]
  rw [enqueue_free p hfree]
  have hwlt : s.qWr < s.slots.length := by rw [hl, h.2.1]; exact Nat.mod_lt _ (by omega)
  have hnew : (((s.writeSlot s.qWr ⟨true, p.cmd, p.arg1, p.arg2⟩).advanceWrite).fromHead k).packet = p ∧
      (((s.writeSlot s.qWr ⟨true, p.cmd, p.arg1, p.arg2⟩).advanceWrite).fromHead k).occ = true := by
    have : ((s.writeSlot s.qWr ⟨true, p.cmd, p.arg1, p.arg2⟩).advanceWrite).fromHead k =
        ⟨true, p.cmd, p.arg1, p.arg2⟩ := by
      have := State.slotAt_writeSlot_self hwlt ⟨true, p.cmd, p.arg1, p.arg2⟩
      rw [h.2.1] at this
      rw [h.2.1]
      exact this
    rw [this]
    exact ⟨rfl, rfl⟩
  have hold : ∀ i, i < s.params.qcap → i ≠ k →
      ((s.writeSlot s.qWr ⟨true, p.cmd, p.arg1, p.arg2⟩).advanceWrite).fromHead i = s.fromHead i := by
    intro i hi hik
    refine State.slotAt_writeSlot_ne ?_ _
    rw [h.2.1]
    exact fun e => hik (cursor_injective hi hk e.symm)
  have hholds : ((s.writeSlot s.qWr ⟨true, p.cmd, p.arg1, p.arg2⟩).advanceWrite).HoldsPackets (k + 1) := by
    refine ⟨hk, ?_, fun i hi => ?_⟩
    · simp only [State.advanceWrite_qWr, State.writeSlot_qWr, State.writeSlot_params, State.advanceWrite_params,
        State.advanceWrite_qRd, State.writeSlot_qRd]
      rw [h.2.1, Nat.mod_add_mod, Nat.add_assoc]
    · by_cases hik : i = k
      · subst hik; rw [hnew.2]; simp
      · rw [hold i hi hik, h.2.2 i hi]
        exact decide_eq_decide.mpr (by omega)
  refine ⟨hholds, ?_⟩
  rw [State.queued_eq hholds, State.queued_eq h, List.range_succ, List.map_append]
  congr 1
  · refine List.map_congr_left fun i hi => ?_
    have := List.mem_range.mp hi
    rw [hold i (by omega) (by omega)]
  · simpa using hnew.1

/-- Enqueue, said once for a queue in canonical form: it stays so, and holds the packets it had and the new one behind
them, cut off at `QCAP` (R71, R79, R80). -/
theorem enqueue_queued {s : State} (h : s.QueueWf) (p : Packet) :
    (enqueue p s).2.QueueWf ∧ (enqueue p s).2.queued = (s.queued ++ [p]).take s.params.qcap := by
  obtain ⟨hl, hr, k, hk⟩ := h
  have hlen := State.queued_length hk
  rcases Nat.lt_or_ge k s.params.qcap with hlt | hge
  · obtain ⟨h1, h2⟩ := enqueue_appends hl hr hk hlt p
    refine ⟨⟨?_, ?_, k + 1, h1⟩, ?_⟩
    · rw [enqueue_free p (by rw [State.write_slot_occ hr hk]; simp [Nat.ne_of_lt hlt])]
      simpa using hl
    · rw [enqueue_frame]; exact hr
    · rw [h2, List.take_of_length_le]
      simp [hlen]; omega
  · have hfull : (s.slotAt s.qWr).occ = true := by
      rw [State.write_slot_occ hr hk]; simp; have := hk.1; omega
    rw [enqueue_full p hfull]
    refine ⟨⟨hl, hr, k, hk⟩, ?_⟩
    have : s.params.qcap = s.queued.length := by have := hk.1; omega
    rw [this]; simp

/-- A queue never holds more than `QCAP` packets (R78). -/
theorem State.queued_length_le {s : State} (h : s.QueueWf) : s.queued.length ≤ s.params.qcap := by
  obtain ⟨-, -, k, hk⟩ := h
  rw [State.queued_length hk]
  exact hk.1

/-- ByteArrived touches the assembler and the producer's side of the queue only (R21, R63). -/
theorem byteArrived_frame (b : Byte) (s : State) :
    byteArrived b s =
      { s with
        faState := (byteArrived b s).faState
        faCmd := (byteArrived b s).faCmd
        faArg1 := (byteArrived b s).faArg1
        slots := (byteArrived b s).slots
        qWr := (byteArrived b s).qWr } := by
  unfold byteArrived
  cases s.faState with
  | expectCommand => rfl
  | expectArg1 =>
    dsimp only
    split
    · rfl
    · rw [enqueue_frame]; rfl
  | expectArg2 => dsimp only; rw [enqueue_frame]; rfl
  | undefined => rfl

/-! ### The release of a slot -/

/-- The release touches the slots and `q_rd` only. -/
theorem State.releaseSlot_frame (s : State) :
    s.releaseSlot = { s with slots := s.releaseSlot.slots, qRd := s.releaseSlot.qRd } := rfl

/-- The release of the slot at the head: the queue loses its first packet and stays in canonical form (R73, R79). -/
theorem State.releaseSlot_queued {s : State} (h : s.QueueWf) (hocc : (s.slotAt s.qRd).occ = true) :
    s.releaseSlot.QueueWf ∧ s.queued = (s.slotAt s.qRd).packet :: s.releaseSlot.queued := by
  obtain ⟨hl, hr, k, hk⟩ := h
  have hk0 : 0 < k := by
    rw [State.read_slot_occ hr hk] at hocc
    simpa using hocc
  obtain ⟨m, rfl⟩ : ∃ m, k = m + 1 := ⟨k - 1, by omega⟩
  have hkq := hk.1
  have hshift : ∀ i, i < s.params.qcap → s.releaseSlot.fromHead i =
      (s.writeSlot s.qRd { s.slotAt s.qRd with occ := false }).slotAt ((s.qRd + (i + 1)) % s.params.qcap) := by
    intro i _
    show (s.writeSlot s.qRd { s.slotAt s.qRd with occ := false }).slotAt
      (((s.qRd + 1) % s.params.qcap + i) % s.params.qcap) = _
    rw [Nat.mod_add_mod, Nat.add_assoc, Nat.add_comm 1 i]
  have hin : ∀ i, i + 1 < s.params.qcap → s.releaseSlot.fromHead i = s.fromHead (i + 1) := by
    intro i hi
    rw [hshift i (by omega)]
    refine State.slotAt_writeSlot_ne ?_ _
    intro e
    have := cursor_injective (r := s.qRd) (i := 0) (j := i + 1) (n := s.params.qcap) (by omega) hi
      (by rw [Nat.add_zero, Nat.mod_eq_of_lt hr]; exact e)
    omega
  have hlast : ∀ i, i + 1 = s.params.qcap → (s.releaseSlot.fromHead i).occ = false := by
    intro i hi
    rw [hshift i (by omega), hi, Nat.add_mod_right, Nat.mod_eq_of_lt hr,
      State.slotAt_writeSlot_self (by omega)]
  have hholds : s.releaseSlot.HoldsPackets m := by
    refine ⟨by show m ≤ s.params.qcap; omega, ?_, fun i hi => ?_⟩
    · show s.qWr = ((s.qRd + 1) % s.params.qcap + m) % s.params.qcap
      rw [hk.2.1, Nat.mod_add_mod, Nat.add_assoc, Nat.add_comm 1 m]
    · have hi' : i < s.params.qcap := hi
      by_cases hil : i + 1 = s.params.qcap
      · rw [hlast i hil]
        symm
        simp
        omega
      · rw [hin i (by omega), hk.2.2 (i + 1) (by omega)]
        exact decide_eq_decide.mpr (by omega)
  refine ⟨⟨by simpa [State.releaseSlot] using hl, Nat.mod_lt _ (by show 0 < s.params.qcap; omega), m, hholds⟩, ?_⟩
  rw [State.queued_eq hk, State.queued_eq hholds, List.range_succ_eq_map]
  have hhead : s.fromHead 0 = s.slotAt s.qRd := by
    rw [State.fromHead, Nat.add_zero, Nat.mod_eq_of_lt hr]
  simp only [List.map_cons, List.map_map, hhead]
  congr 1
  refine List.map_congr_left fun i hi => ?_
  have := List.mem_range.mp hi
  show (s.fromHead (i + 1)).packet = _
  rw [hin i (by omega)]

/-- A freshly cleared queue is in canonical form and empty (R35). -/
theorem State.clearSession_queueWf {s : State} (h : 1 ≤ s.params.qcap) :
    s.clearSession.QueueWf ∧ s.clearSession.queued = [] := by
  have hh : s.clearSession.HoldsPackets 0 := by
    refine ⟨Nat.zero_le _, by simp, fun i _ => ?_⟩
    simp only [State.fromHead, State.slotAt, State.clearSession_slots, List.getD]
    rw [List.getElem?_replicate]
    split <;> rfl
  exact ⟨⟨by simp, by simp; omega, 0, hh⟩, by rw [State.queued_eq hh]; rfl⟩

end Sys2Proof.Machine
end

