-- ==== Sys2Proof/Tests/Slice0.lean ====
section
/-! SUPPORT. Tests. Expected values are hand-made from the encodings of 30_encoding.md R59 and from the examples that the
rules of 42_command_interpreter.md, 43_cv_access.md and 95_test_vectors.md give; the source of each stands in its name or
its comment. A `witness_<Name>` theorem shows a state and operands that meet every hypothesis of `Obligations.<Name>`. -/

namespace Sys2Proof.Tests

open Sys2Proof.Machine Sys2Proof.Config

/-! ### WellFormed: each row that leaves command bits free refuses a command byte of another row -/

theorem test_wellFormed_refuses_named :
    [WellFormed (.agrp 0x30 0), WellFormed (.agrp 0x27 0), WellFormed (.adir 0x32 0), WellFormed (.aux 0x44 0),
      WellFormed (.aux 0x3F 0), WellFormed (.fgrp60 0x68 0), WellFormed (.fgrp60 0x5F 0)].all (· == false) := by decide

theorem test_wellFormed_refuses_unk3 :
    [WellFormed (.unk3x70 0x74 0 0), WellFormed (.unk3x74 0x76 0 0), WellFormed (.unk3x78 0x7A 0 0)].all (· == false) := by
  decide

theorem test_wellFormed_refuses_unk2 :
    [WellFormed (.unk2x02 0x04 0), WellFormed (.unk2x04 0x08 0), WellFormed (.unk2x08 0x10 0), WellFormed (.unk2x10 0x20 0),
      WellFormed (.unk2x32 0x34 0), WellFormed (.unk2x34 0x38 0), WellFormed (.unk2x38 0x40 0), WellFormed (.unk2x44 0x48 0),
      WellFormed (.unk2x48 0x50 0), WellFormed (.unk2x54 0x58 0), WellFormed (.unk2x58 0x5C 0), WellFormed (.unk2x5C 0x5E 0),
      WellFormed (.unk2x6A 0x6C 0), WellFormed (.unk2x80 0x7F 0)].all (· == false) := by decide

/-! ### Decoding: a word of every row, its command byte in the low byte (R55, R59) -/

theorem test_decode_nop : decodeTableWord 16 0xAA00 = some (.nop 0xAA) := by decide
theorem test_decode_trig : decodeTableWord 16 0x0921 = some (.trig 0x09) := by decide
theorem test_decode_mcur : decodeTableWord 16 0xF623 = some (.mcur 0xF6) := by decide
theorem test_decode_aspd24 : decodeTableWord 16 0x8A24 = some (.aspd24 0x8A) := by decide
theorem test_decode_aspd50 : decodeTableWord 16 0x8A50 = some (.aspd50 0x8A) := by decide
theorem test_decode_rspd25 : decodeTableWord 16 0x7F25 = some (.rspd25 0x7F) := by decide
theorem test_decode_rspd51 : decodeTableWord 16 0x7F51 = some (.rspd51 0x7F) := by decide
theorem test_decode_mload : decodeTableWord 16 0x8026 = some (.mload 0x80) := by decide
theorem test_decode_agrp : decodeTableWord 16 0xFF2F = some (.agrp 0x2F 0xFF) := by decide
theorem test_decode_adir : decodeTableWord 16 0x0331 = some (.adir 0x31 0x03) := by decide
theorem test_decode_aux : decodeTableWord 16 0x8142 = some (.aux 0x42 0x81) := by decide
theorem test_decode_dspd : decodeTableWord 16 0x8052 = some (.dspd 0x80) := by decide
theorem test_decode_madl : decodeTableWord 16 0x345E = some (.madl 0x34) := by decide
theorem test_decode_madh : decodeTableWord 16 0x125F = some (.madh 0x12) := by decide
theorem test_decode_fgrp60 : decodeTableWord 16 0x1367 = some (.fgrp60 0x67 0x13) := by decide
theorem test_decode_fgrp68 : decodeTableWord 16 0x1368 = some (.fgrp68 0x13) := by decide
theorem test_decode_mctl : decodeTableWord 16 0x036C = some (.mctl 0x03) := by decide
theorem test_decode_bin : decodeTableWord 16 0x856D = some (.bin 0x85) := by decide
theorem test_decode_binl : decodeTableWord 16 0x056E = some (.binl 0x05) := by decide
theorem test_decode_binh : decodeTableWord 16 0x016F = some (.binh 0x01) := by decide
theorem test_decode_cvchk : decodeTableWord 24 0x10AB77 = some (.cvchk 0xAB 0x10) := by decide
theorem test_decode_cvbit : decodeTableWord 24 0xF3AB7B = some (.cvbit 0xAB 0xF3) := by decide
theorem test_decode_cvrst : decodeTableWord 24 0x08077C = some (.cvrst 0x07 0x08) := by decide
theorem test_decode_cvwr : decodeTableWord 24 0x55AB7F = some (.cvwr 0xAB 0x55) := by decide
theorem test_decode_unk3x70 : decodeTableWord 24 0x020173 = some (.unk3x70 0x73 0x01 0x02) := by decide
theorem test_decode_unk3x74 : decodeTableWord 24 0x020175 = some (.unk3x74 0x75 0x01 0x02) := by decide
theorem test_decode_unk3x76 : decodeTableWord 24 0x020176 = some (.unk3x76 0x01 0x02) := by decide
theorem test_decode_unk3x78 : decodeTableWord 24 0x020179 = some (.unk3x78 0x79 0x01 0x02) := by decide
theorem test_decode_unk3x7A : decodeTableWord 24 0x02017A = some (.unk3x7A 0x01 0x02) := by decide
theorem test_decode_unk3x7D : decodeTableWord 24 0x02017D = some (.unk3x7D 0x01 0x02) := by decide
theorem test_decode_unk3x7E : decodeTableWord 24 0x02017E = some (.unk3x7E 0x01 0x02) := by decide
theorem test_decode_unk2x01 : decodeTableWord 16 0x7701 = some (.unk2x01 0x77) := by decide
theorem test_decode_unk2x02 : decodeTableWord 16 0x7703 = some (.unk2x02 0x03 0x77) := by decide
theorem test_decode_unk2x04 : decodeTableWord 16 0x7707 = some (.unk2x04 0x07 0x77) := by decide
theorem test_decode_unk2x08 : decodeTableWord 16 0x770F = some (.unk2x08 0x0F 0x77) := by decide
theorem test_decode_unk2x10 : decodeTableWord 16 0x771F = some (.unk2x10 0x1F 0x77) := by decide
theorem test_decode_unk2x20 : decodeTableWord 16 0x7720 = some (.unk2x20 0x77) := by decide
theorem test_decode_unk2x22 : decodeTableWord 16 0x7722 = some (.unk2x22 0x77) := by decide
theorem test_decode_unk2x27 : decodeTableWord 16 0x7727 = some (.unk2x27 0x77) := by decide
theorem test_decode_unk2x32 : decodeTableWord 16 0x7733 = some (.unk2x32 0x33 0x77) := by decide
theorem test_decode_unk2x34 : decodeTableWord 16 0x7737 = some (.unk2x34 0x37 0x77) := by decide
theorem test_decode_unk2x38 : decodeTableWord 16 0x773F = some (.unk2x38 0x3F 0x77) := by decide
theorem test_decode_unk2x44 : decodeTableWord 16 0x7747 = some (.unk2x44 0x47 0x77) := by decide
theorem test_decode_unk2x48 : decodeTableWord 16 0x774F = some (.unk2x48 0x4F 0x77) := by decide
theorem test_decode_unk2x53 : decodeTableWord 16 0x7753 = some (.unk2x53 0x77) := by decide
theorem test_decode_unk2x54 : decodeTableWord 16 0x7757 = some (.unk2x54 0x57 0x77) := by decide
theorem test_decode_unk2x58 : decodeTableWord 16 0x775B = some (.unk2x58 0x5B 0x77) := by decide
theorem test_decode_unk2x5C : decodeTableWord 16 0x775D = some (.unk2x5C 0x5D 0x77) := by decide
theorem test_decode_unk2x69 : decodeTableWord 16 0x7769 = some (.unk2x69 0x77) := by decide
theorem test_decode_unk2x6A : decodeTableWord 16 0x776B = some (.unk2x6A 0x6B 0x77) := by decide
theorem test_decode_unk2x80 : decodeTableWord 16 0x77FF = some (.unk2x80 0xFF 0x77) := by decide

/-- A word that gives the command byte alone has argument bytes of zeros. -/
theorem test_decode_short_word : decodeTableWord 8 0x7C = some (.cvrst 0x00 0x00) := by decide

theorem test_decode_incomplete :
    decode [] = .error .noCommand ∧ decode [0x21] = .error .noArg1 ∧ decode [0x77, 0xAB] = .error .noArg2 := ⟨rfl, rfl, rfl⟩

theorem test_encode : encode (.cvwr 0xAB 0x55) = [0x7F, 0xAB, 0x55] ∧ encode (.binl 0x05) = [0x6E, 0x05] := by decide

/-! ### One packet -/

/-- A module of identity 2 with `QCAP` = 3 (the vectors of 95_test_vectors.md that name identity 2 start here). -/
def module2 : State :=
  { State.powerOn with
    initDone := true
    slaveAddr := 2
    slots := List.replicate 3 Slot.empty
    params := { Params.default with qcap := 3, identityCvSelector := 0x80 } }

/-- The same module with answers of CV storage ready. -/
def module2With (answers : List Byte) : State := { module2 with answers := answers }

/-- The events of one packet after its raw event, on a small module. -/
def eventsOf (i : Instr) (s : State) : Option (List Event) :=
  match exec i s with
  | .next t => some (t.evLog.drop 1)
  | _ => none

-- The examples of R85 to R103.
theorem test_exec_fgrp60 : eventsOf (.fgrp60 0x60 0x13) module2 = some [.functionGroup 0 0x13] := by decide
theorem test_exec_fgrp68 : eventsOf (.fgrp68 0xFF) module2 = some [.functionGroup 8 0xFF] := by decide
theorem test_exec_bin : eventsOf (.bin 0x85) module2 = some [.binaryState 5 true] := by decide
theorem test_exec_aux : eventsOf (.aux 0x42 0x81) module2 = some [.auxGroup 2 0x81] := by decide
theorem test_exec_trig : eventsOf (.trig 0x09) module2 = some [.triggerPulse 0x09] := by decide
theorem test_exec_mcur : eventsOf (.mcur 0xF6) module2 = some [.motorCurrent (-10)] := by decide
theorem test_exec_aspd24 : eventsOf (.aspd24 0x8A) module2 = some [.actualSpeed 10 true] := by decide
theorem test_exec_aspd50 : eventsOf (.aspd50 0x8A) module2 = some [.actualSpeed 10 true] := by decide
theorem test_exec_rspd25 : eventsOf (.rspd25 0x7F) module2 = some [.requestedSpeed 127 false] := by decide
theorem test_exec_rspd51 : eventsOf (.rspd51 0x7F) module2 = some [.requestedSpeed 127 false] := by decide
theorem test_exec_dspd : eventsOf (.dspd 0x80) module2 = some [.dccSpeed 0 true] := by decide
theorem test_exec_mload : eventsOf (.mload 0x80) module2 = some [.motorLoad (-128)] := by decide
theorem test_exec_agrp : eventsOf (.agrp 0x2F 0xFF) module2 = some [.analogGroup 8 255] := by decide
theorem test_exec_adir : eventsOf (.adir 0x31 0x03) module2 = some [.analogDirect 2 0x03] := by decide
theorem test_exec_nop : eventsOf (.nop 0xAA) module2 = some [.noOperation 0xAA] := by decide
theorem test_exec_mctl : eventsOf (.mctl 0x03) module2 = some [.moduleControl 0x03] := by decide
theorem test_exec_unk3x70 : eventsOf (.unk3x70 0x70 0x01 0x02) module2 = some [.unknownMessage 0x70 0x01] := by decide
theorem test_exec_unk2x04 : eventsOf (.unk2x04 0x05 0x6F) module2 = some [.unknownMessage 0x05 0x6F] := by decide

/-- The example of R87: no event, the pairing armed. -/
theorem test_exec_binl :
    (match exec (.binl 0x05) module2 with
      | .next t => decide (t.evLog = [.raw2 0x6E 0x05] ∧ t.pair = .awaitingBinaryStateHigh ∧ t.pairLow = 0x05)
      | _ => false) = true := by decide

/-- The example of R88. -/
theorem test_exec_binh :
    eventsOf (.binh 0x01) { module2 with pair := .awaitingBinaryStateHigh, pairLow := 0x05 } =
      some [.binaryStateLong 133 false] := by decide

/-- The example of R99: no event, the pairing armed. -/
theorem test_exec_madl :
    (match exec (.madl 0x34) module2 with
      | .next t => decide (t.evLog = [.raw2 0x5E 0x34] ∧ t.pair = .awaitingMasterAddressHigh ∧ t.pairLow = 0x34)
      | _ => false) = true := by decide

/-- The example of R100, and P1 of 95_test_vectors.md: the other pairing's continuation finds nothing. -/
theorem test_exec_madh :
    eventsOf (.madh 0x12) { module2 with pair := .awaitingMasterAddressHigh, pairLow := 0x34 } =
        some [.masterAddress 0x1234] ∧
      eventsOf (.madh 0x12) { module2 with pair := .awaitingBinaryStateHigh, pairLow := 0x34 } = some [] := by decide

/-- The example of R112; the mismatch; a selector of identity 1, which the gate of R107 stops (R108); and A4 of
95_test_vectors.md: the two index CVs under NORMALIZED, a match and a mismatch, without a storage call. -/
theorem test_exec_cvchk :
    eventsOf (.cvchk 0xAB 0x10) (module2With [0x10]) = some [.readCV 0xAB 0x00 0x10, .ackPulse] ∧
      eventsOf (.cvchk 0xAB 0x10) (module2With [0x11]) = some [.readCV 0xAB 0x00 0x11] ∧
      eventsOf (.cvchk 0x84 0x10) (module2With [0x10]) = some [] ∧
      eventsOf (.cvchk 0x81 0x05)
          { module2 with cvIndex := 0x05, params := { module2.params with indexCvKey := .normalized } } = some [.ackPulse] ∧
      eventsOf (.cvchk 0xFC 0x06)
          { module2 with cvIndex := 0x05, params := { module2.params with indexCvKey := .normalized } } = some [] := by decide

/-- The example of R113, and the same write with an answer that differs: no acknowledgment. -/
theorem test_exec_cvwr :
    eventsOf (.cvwr 0xAB 0x55) (module2With [0x55]) = some [.writeCV 0xAB 0x00 0x55 0x55, .ackPulse] ∧
      eventsOf (.cvwr 0xAB 0x55) (module2With [0x54]) = some [.writeCV 0xAB 0x00 0x55 0x54] := by decide

/-- The example of R114, and C21: a bad pattern makes no storage call. -/
theorem test_exec_cvbit :
    eventsOf (.cvbit 0xAB 0xF3) (module2With [0xFF, 0xF7]) =
        some [.readCV 0xAB 0x00 0xFF, .writeCV 0xAB 0x00 0xF7 0xF7, .ackPulse] ∧
      eventsOf (.cvbit 0xAB 0xDF) (module2With [0xFF, 0xF7]) = some [] := by decide

/-- The example of R115, under both gates. -/
theorem test_exec_cvrst :
    eventsOf (.cvrst 0x07 0x08) { module2 with params := { module2.params with cvResetGate := .ungated } } =
        some [.factoryReset 0x08, .ackPulse] ∧
      eventsOf (.cvrst 0x07 0x08) module2 = some [] := by decide

/-- A6 of 95_test_vectors.md, its second packet: a bit write to an index CV under NORMALIZED. -/
theorem test_exec_cvbit_index :
    (match exec (.cvbit 0x81 0xF0)
        { module2 with cvIndex := 0x05, params := { module2.params with indexCvKey := .normalized } } with
      | .next t => decide (t.cvIndex = 0x04 ∧ t.evLog = [.raw3 0x7B 0x81 0xF0, .ackPulse])
      | _ => false) = true := by decide

/-! ### One step -/

/-- The machine after reset, its next step being the packet of a table word. -/
theorem test_withFetchWord :
    (match step (State.reset.withFetchWord 24 0x020173) with
      | .next t => decide (t.evLog = [.raw3 0x73 0x01 0x02, .unknownMessage 0x73 0x01] ∧ t.drainUnknown = true ∧
          t.drainSeen = true ∧ t.qRd = 1 ∧ t.qWr = 1 ∧ (t.slotAt 0).occ = false)
      | _ => false) = true := by decide

/-- A queue of three slots with the read cursor at the last one: `6E 05` there and `70 01 02` behind it, wrapped around. -/
def queueOfTwo : State :=
  { module2 with
    slots := [⟨true, 0x70, 0x01, 0x02⟩, ⟨false, 0x00, 0x00, 0x00⟩, ⟨true, 0x6E, 0x05, 0x00⟩]
    qRd := 2
    qWr := 1 }

/-- The same queue inside a Drain. -/
def drainingTwo : State := { queueOfTwo with drainActive := true }

/-- A Drain that finds nothing. -/
def drainingNone : State := { module2 with drainActive := true }

/-- The last packet of R71's full queue: it is dropped, and the assembler returns to EC (R65). -/
def fullQueue : State :=
  { module2 with
    faState := .expectArg1
    faCmd := 0x21
    slots := List.replicate 3 ⟨true, 0x21, 0x01, 0x00⟩
    qRd := 1
    qWr := 1 }

theorem test_full_queue_drops_newest :
    (match step { fullQueue with inputs := [.byteArrived 0x06] } with
      | .next t => decide (t.slots = fullQueue.slots ∧ t.qWr = 1 ∧ t.faState = .expectCommand)
      | _ => false) = true := by decide

/-- I-9 of 95_test_vectors.md: the default identity is persisted. -/
theorem test_init_storage_persists :
    (match step { module2With [0x00, 0x01] with inputs := [.init .storage] } with
      | .next t => decide (t.slaveAddr = 1 ∧ t.evLog = [.readCV 0x80 0x00 0x00, .writeCV 0x80 0x00 0x01 0x01])
      | _ => false) = true := by decide

/-- Boundaries of R38: V = 0xAA belongs to identity 1, 0xAB to identity 2, 0x83 to all. -/
theorem test_selector_boundaries :
    isValidCV 0xAA 1 = true ∧ isValidCV 0xAA 2 = false ∧ isValidCV 0xAB 2 = true ∧ isValidCV 0xD2 2 = true ∧
      isValidCV 0xD3 3 = true ∧ isValidCV 0xFA 2 = false ∧ isValidCV 0x83 3 = true ∧ isValidCV 0x7F 1 = false := by decide

/-! ### Witnesses: the hypotheses of each obligation can be met -/

theorem witness_module2_queue : module2.QueueWf := by
  refine ⟨rfl, by decide, 0, by decide, by decide, ?_⟩
  decide

theorem witness_module2_inv : module2.Inv :=
  ⟨rfl, by decide, by decide, by decide, witness_module2_queue, by decide⟩

theorem witness_queueOfTwo_inv : queueOfTwo.Inv := by
  refine ⟨rfl, by decide, by decide, by decide, ⟨rfl, by decide, 2, by decide, by decide, ?_⟩, by decide⟩
  decide

theorem witness_fullQueue_inv : fullQueue.Inv := by
  refine ⟨rfl, by decide, by decide, by decide, ⟨rfl, by decide, 3, by decide, by decide, ?_⟩, by decide⟩
  decide

theorem witness_queueOfTwo_queued : queueOfTwo.queued = [⟨0x6E, 0x05, 0x00⟩, ⟨0x70, 0x01, 0x02⟩] := by decide

theorem witness_DecodeReadsEncodedInstruction :
    WellFormed (.agrp 0x2F 0xFF) = true ∧ WellFormed (.unk3x70 0x70 1 2) = true := by decide

theorem witness_EncodeWritesDecodedInstruction :
    decode [0x6E, 0x05, 0x6F] = .ok (.binl 0x05, [0x6F]) ∧ decode [0x7F, 0xAB, 0x55] = .ok (.cvwr 0xAB 0x55, []) :=
  ⟨rfl, rfl⟩

theorem witness_AnalogGroupPacket :
    (0x28 ≤ (0x28 : Byte).toNat ∧ (0x28 : Byte).toNat ≤ 0x2F) ∧ 0x28 ≤ (0x2F : Byte).toNat ∧ (0x2F : Byte).toNat ≤ 0x2F := by
  decide

theorem witness_AuxGroupPacket :
    (0x40 ≤ (0x40 : Byte).toNat ∧ (0x40 : Byte).toNat ≤ 0x43) ∧ 0x40 ≤ (0x43 : Byte).toNat ∧ (0x43 : Byte).toNat ≤ 0x43 := by
  decide

theorem witness_FunctionGroupPacket :
    (0x60 ≤ (0x60 : Byte).toNat ∧ (0x60 : Byte).toNat ≤ 0x67) ∧ 0x60 ≤ (0x67 : Byte).toNat ∧ (0x67 : Byte).toNat ≤ 0x67 := by
  decide

theorem witness_UnknownOpcodePacket :
    (isUnknownOpcode 0x01 = true ∧ isUnknownOpcode 0xFF = true ∧ isUnknownOpcode 0x70 = true) ∧
      (.unk3x70 0x73 0x01 0x02 ∈ unknownInstrs 0x73 0x01 0x02 ∧ WellFormed (.unk3x70 0x73 0x01 0x02) = true) ∧
      WellFormed (.nop 0xAA) = true ∧ isUnknownOpcode (Instr.nop 0xAA).cmd = false ∧ ∃ t, exec (.nop 0xAA) module2 = .next t :=
  ⟨by decide, by decide, by decide, by decide, _, rfl⟩

theorem witness_IndexCvSelectors : isValidCV 0x80 1 = true ∧ isValidCV 0xFF 3 = true := by decide

/-- Module 2 with the alternative readings of R109 and R107. -/
def alternativeModule : State :=
  { module2 with params := { module2.params with indexCvKey := .normalized, cvResetGate := .ungated } }

theorem witness_ParameterConsequences :
    (module2.params.indexCvKey = .raw ∧ module2.NoInitNext ∧ ∃ t, step module2 = .next t) ∧
      module2.params.cvResetGate = .gated ∧ alternativeModule.params.indexCvKey = .normalized ∧
      ((0x81 : Byte) = 0x81 ∨ (0x81 : Byte) = 0xFC) ∧ ((0xFC : Byte) = 0x81 ∨ (0xFC : Byte) = 0xFC) ∧
      alternativeModule.params.cvResetGate = .ungated :=
  ⟨⟨rfl, (by intro _ h; cases h), _, rfl⟩, rfl, rfl, .inl rfl, .inr rfl, rfl⟩

/-- One state for each arm of R63: a command byte, the second byte of a short and of a long frame, the third byte, and the
undefined state. -/
theorem witness_ByteArrivedStep :
    ∀ st ∈ [({ module2 with inputs := [.byteArrived 0xFF] } : State), { fullQueue with inputs := [.byteArrived 0xFF] },
        { fullQueue with faCmd := 0x7F, inputs := [.byteArrived 0xFF] },
        { module2 with faState := .expectArg2, faCmd := 0x7F, inputs := [.byteArrived 0xFF] },
        { module2 with faState := .undefined, inputs := [.byteArrived 0xFF] }],
      st.initDone = true ∧ st.inputs = [.byteArrived (0xFF : Byte).toNat] := by decide

theorem witness_ResyncStep :
    ({ fullQueue with inputs := [.resync] } : State).initDone = true ∧
      ({ fullQueue with inputs := [.resync] } : State).inputs = [.resync] := by decide

theorem witness_DrainStartAndEnd :
    (({ module2 with inputs := [.drain] } : State).initDone = true ∧
        ({ module2 with inputs := [.drain] } : State).drainActive = false) ∧
      drainingNone.initDone = true ∧ drainingNone.drainActive = true ∧ drainingNone.ProcessingNext ∧
      (drainingNone.slotAt drainingNone.qRd).occ = false :=
  ⟨by decide, by decide, by decide, .inl rfl, by decide⟩

theorem witness_InitStep :
    ((0xFF : Nat) ≤ 0xFF ∧ ({ module2 with inputs := [.init (.explicit 0xFF)] } : State).drainActive = false ∧
        ({ module2 with inputs := [.init (.explicit 0xFF)] } : State).inputs = .init (.explicit 0xFF) :: []) ∧
      ({ module2 with inputs := [.init .storage] } : State).drainActive = false ∧
        ({ module2 with inputs := [.init .storage] } : State).inputs = .init .storage :: [] := by decide

theorem witness_StepRunsTheDecodedPacket :
    drainingTwo.initDone = true ∧ drainingTwo.drainActive = true ∧ drainingTwo.ProcessingNext ∧
      (drainingTwo.slotAt drainingTwo.qRd).occ = true ∧
      decode (drainingTwo.slotAt drainingTwo.qRd).bytes = .ok (.binl 0x05, []) ∧ WellFormed (.binl 0x05) = true :=
  ⟨rfl, rfl, .inl rfl, rfl, rfl, rfl⟩

/-- One state for each clause and each kind of move, with the byte values 0xFF and 0x100 on the two sides of the type's
bound. -/
theorem witness_MovesNotEnabled :
    (∀ m ∈ [Input.resync, .drain, .processing, .byteArrived 0xFF],
        ({ State.powerOn with inputs := [m] } : State).initDone = false ∧
        ({ State.powerOn with inputs := [m] } : State).inputs.head? = some m) ∧
      (({ module2 with drainActive := true, inputs := [.drain] } : State).initDone = true ∧
        ({ module2 with drainActive := true, inputs := [.drain] } : State).inputs.head? = some .drain) ∧
      (∀ m ∈ [Input.init .storage, .init (.explicit 0xFF)],
        ({ module2 with drainActive := true, inputs := [m] } : State).inputs.head? = some m) ∧
      (({ module2 with inputs := [.processing] } : State).drainActive = false ∧
        ({ module2 with inputs := [.processing] } : State).inputs.head? = some .processing) ∧
      (0xFF < (0x100 : Nat) ∧
        ({ module2 with inputs := [.byteArrived 0x100] } : State).inputs.head? = some (.byteArrived 0x100) ∧
        ({ module2 with inputs := [.init (.explicit 0x100)] } : State).inputs.head? = some (.init (.explicit 0x100))) := by
  decide

theorem witness_ByteAndResyncInEitherOrder : module2.initDone = true ∧ module2.faState = .expectCommand := ⟨rfl, rfl⟩

/-- A Drain in progress over two packets, and a packet to come: the invariant holds and a step is made. -/
theorem witness_StepKeepsInvariant :
    drainingTwo.Inv ∧ ∃ t, step drainingTwo = .next t :=
  ⟨⟨rfl, by decide, by decide, by decide, witness_queueOfTwo_inv.i4, by decide⟩, _, rfl⟩

theorem witness_InitEstablishesInvariant :
    ({ State.powerOn with inputs := [.init (.explicit 0)] } : State).drainActive = false ∧ 1 ≤ State.powerOn.params.qcap ∧
      ({ State.powerOn with inputs := [.init (.explicit 0)] } : State).inputs.head? = some (.init (.explicit 0)) := by decide

theorem witness_StepKeepsFramesWellFormed :
    drainingTwo.FramesWf ∧ ∃ t, step drainingTwo = .next t :=
  ⟨⟨by decide, by decide⟩, _, rfl⟩

theorem witness_RawEventFirst : ∃ t, exec (.bin 0x80) module2 = .next t := ⟨_, rfl⟩

theorem witness_AcknowledgmentComesLast : ∃ t, exec (.cvwr 0xAB 0x55) (module2With [0x55]) = .next t := ⟨_, rfl⟩

theorem witness_StorageCallsAreLoggedOnce : ∃ t, exec (.cvbit 0xAB 0xF3) (module2With [0xFF, 0xF7]) = .next t := ⟨_, rfl⟩

theorem witness_IdentityFixedForTheSession :
    drainingTwo.NoInitNext ∧
      ∃ t, step drainingTwo = .next t :=
  ⟨(by intro _ h; cases h), _, rfl⟩

/-- P1 of 95_test_vectors.md: MADL between BINL and BINH, and BINL between MADL and MADH. -/
theorem witness_PairingNeedsAdjacentPackets :
    (WellFormed (.madl 0x34) = true ∧ (Instr.madl 0x34).cmd ≠ 0x6E ∧ (Instr.madl 0x34).cmd ≠ 0x6F ∧
        ∃ t u, exec (.binl 0x85) module2 = .next t ∧ exec (.madl 0x34) t = .next u) ∧
      WellFormed (.binl 0x85) = true ∧ (Instr.binl 0x85).cmd ≠ 0x5E ∧ (Instr.binl 0x85).cmd ≠ 0x5F ∧
        ∃ t u, exec (.madl 0x34) module2 = .next t ∧ exec (.binl 0x85) t = .next u :=
  ⟨⟨rfl, by decide, by decide, _, _, rfl, rfl⟩, rfl, by decide, by decide, _, _, rfl, rfl⟩

/-- A resync with a pairing pending, and the end of a Drain. -/
theorem witness_OnlyPacketsTouchThePairing :
    ∀ s ∈ [({ module2 with pair := .awaitingBinaryStateHigh, inputs := [.resync] } : State), drainingNone],
      s.NoInitNext ∧ (s.ProcessingNext → s.drainActive = true → (s.slotAt s.qRd).occ = false) ∧
        ∃ t, step s = .next t := by
  intro s hs
  simp only [List.mem_cons, List.not_mem_nil, or_false] at hs
  rcases hs with rfl | rfl
  · exact ⟨(by intro _ h; cases h), fun _ _ => rfl, _, rfl⟩
  · exact ⟨(by intro _ h; cases h), fun _ _ => rfl, _, rfl⟩

theorem witness_OtherIdentitiesSeeTheSameCommands :
    isCvOpcode (Instr.fgrp68 0x01).cmd = false ∧ ∃ t, exec (.fgrp68 0x01) module2 = .next t :=
  ⟨by decide, _, rfl⟩

theorem witness_HandlersNeverChangeTheCore :
    ∃ t, step drainingTwo = .next t := ⟨_, rfl⟩

theorem witness_LogOnlyGrows :
    (∃ t, step drainingTwo = .next t) ∧ drainingNone.NoInitNext ∧
      (drainingNone.ProcessingNext → drainingNone.drainActive = true →
        (drainingNone.slotAt drainingNone.qRd).occ = false) ∧
      ∃ t, step drainingNone = .next t :=
  ⟨⟨_, rfl⟩, (by intro _ h; cases h), fun _ _ => rfl, _, rfl⟩

theorem witness_PreemptionLeavesTheDrain :
    (({ queueOfTwo with drainActive := true, inputs := [.resync] } : State).inputs.head? = some .resync ∧
        ∃ t, step { queueOfTwo with drainActive := true, inputs := [.resync] } = .next t) ∧
      ({ fullQueue with drainActive := true, inputs := [.byteArrived 0xFF] } : State).inputs.head? =
        some (.byteArrived 0xFF) ∧
      ∃ t, step { fullQueue with drainActive := true, inputs := [.byteArrived 0xFF] } = .next t :=
  ⟨⟨rfl, _, rfl⟩, rfl, _, rfl⟩

theorem witness_ByteStreamBecomesItsFrames :
    ({ module2 with inputs := [.byteArrived 0x6E, .byteArrived 0x05, .byteArrived 0x77] } : State).Inv ∧
      ({ module2 with inputs := [.byteArrived 0x6E, .byteArrived 0x05, .byteArrived 0x77] } : State).faState =
        .expectCommand ∧
      ({ module2 with inputs := [.byteArrived 0x6E, .byteArrived 0x05, .byteArrived 0x77] } : State).inputs =
        byteMoves [0x6E, 0x05, 0x77] ++ [] :=
  ⟨⟨rfl, by decide, by decide, by decide, witness_module2_inv.i4, by decide⟩, rfl, by decide⟩

theorem witness_ConsumerTakesTheHead :
    drainingTwo.Inv ∧ drainingTwo.drainActive = true ∧ drainingTwo.ProcessingNext ∧
      drainingTwo.queued = ⟨0x6E, 0x05, 0x00⟩ :: [⟨0x70, 0x01, 0x02⟩] :=
  ⟨witness_StepKeepsInvariant.1, rfl, .inl rfl, by decide⟩

theorem witness_DrainCallEmptiesTheQueue :
    ({ queueOfTwo with inputs := [.drain] } : State).Inv ∧ ({ queueOfTwo with inputs := [.drain] } : State).drainActive = false ∧
      ({ queueOfTwo with inputs := [.drain] } : State).inputs = [.drain] :=
  ⟨⟨rfl, by decide, by decide, by decide, witness_queueOfTwo_inv.i4, by decide⟩, rfl, rfl⟩

end Sys2Proof.Tests
end

section
/-! Which moves are refused, and under which name: one law per refusing arm of a move, and `step` as the move at the head of
the inputs. -/

namespace Sys2Proof.Machine

/-- With a move presented, a step is that move, made on the state without it. -/
theorem step_of_head {s : State} {m : Input} (h : s.inputs.head? = some m) : step s = perform m s.popInput := by
  obtain ⟨rest, hi⟩ := List.head?_eq_some_iff.mp h
  unfold step nextMove
  rw [hi]

/-- The moves of BA, IT and PC and the Drain call, a byte being of its type: those Init must precede (R133). -/
inductive Input.NeedsInit : Input → Prop
  | byteArrived {b : Nat} (hb : b ≤ 0xFF) : NeedsInit (.byteArrived b)
  | resync : NeedsInit .resync
  | drain : NeedsInit .drain
  | processing : NeedsInit .processing

theorem perform_before_init {m : Input} {s : State} (hm : m.NeedsInit) (hs : s.initDone = false) :
    perform m s = .refused .beforeInit := by
  cases hm with
  | byteArrived hb => simp [perform, byteStep, hs, Nat.not_lt.mpr hb]
  | resync => simp [perform, resyncStep, hs]
  | drain => simp [perform, drainStep, hs]
  | processing => simp [perform, processingStep, hs]

theorem drainStep_during_drain {s : State} (hi : s.initDone = true) (hd : s.drainActive = true) :
    drainStep s = .refused .drainNotReentrant := by
  simp [drainStep, hi, hd]

theorem processingStep_without_drain {s : State} (hi : s.initDone = true) (hd : s.drainActive = false) :
    processingStep s = .refused .noDrainInProgress := by
  simp [processingStep, hi, hd]

theorem initStep_storage_during_drain {s : State} (hd : s.drainActive = true) :
    initStep .storage s = .refused .initDuringDrain := by
  simp [initStep, hd]

theorem initStep_explicit_during_drain {s : State} {n : Nat} (hn : n ≤ 0xFF) (hd : s.drainActive = true) :
    initStep (.explicit n) s = .refused .initDuringDrain := by
  simp [initStep, hd, Nat.not_lt.mpr hn]

/-- The type of a byte is checked first, before `init_done` (R14). -/
theorem byteStep_out_of_type {b : Nat} (hb : 0xFF < b) (s : State) : byteStep b s = .refused .byteOutOfType :=
  if_pos hb

/-- The type of an identity argument is checked first, before `drain_active` (R14). -/
theorem initStep_out_of_type {n : Nat} (hn : 0xFF < n) (s : State) :
    initStep (.explicit n) s = .refused .identityOutOfType :=
  if_pos hn

/-- Settles O37: each clause is the refusing arm of the move at the head of the inputs. -/
theorem movesNotEnabled : Obligations.MovesNotEnabled := by
  refine ⟨fun s hinit hmove => ?beforeInit, fun s hinit hdrain hmove => ?secondDrain,
    fun s hdrain hmove => ?initInDrain, fun s hinit hdrain hmove => ?noDrain,
    fun s n hn hmove => ?byteType, fun s n hn hmove => ?identityType⟩
  case beforeInit =>
    have refuses : ∀ m : Input, m.NeedsInit → s.inputs.head? = some m → step s = .refused .beforeInit :=
      fun m hm hhead => (step_of_head hhead).trans (perform_before_init hm hinit)
    rcases hmove with h | h | h | ⟨b, hb, h⟩
    · exact refuses _ .resync h
    · exact refuses _ .drain h
    · exact refuses _ .processing h
    · exact refuses _ (.byteArrived hb) h
  case secondDrain => exact (step_of_head hmove).trans (drainStep_during_drain hinit hdrain)
  case initInDrain =>
    rcases hmove with h | ⟨n, hn, h⟩
    · exact (step_of_head h).trans (initStep_storage_during_drain hdrain)
    · exact (step_of_head h).trans (initStep_explicit_during_drain hn hdrain)
  case noDrain => exact (step_of_head hmove).trans (processingStep_without_drain hinit hdrain)
  case byteType => exact (step_of_head hmove).trans (byteStep_out_of_type hn _)
  case identityType => exact (step_of_head hmove).trans (initStep_out_of_type hn _)

end Sys2Proof.Machine
end

section
/-! A packet's effect, said once for every instruction: `exec` is Process (R81) around a dispatch stage, and no stage touches
more than the interpreter's own registers, the log and the storage draws, nor looks at which handlers are registered. -/

namespace Sys2Proof.Machine

open Sys2Proof.Config

/-! ### What the dispatch stage of a command can do -/

/-- `t` with the pairing, `cv_index`, the log and the storage draws of `s`. -/
def State.withInterpreterOf (t s : State) : State :=
  { t with
    pair := s.pair
    pairLow := s.pairLow
    cvIndex := s.cvIndex
    evLog := s.evLog
    answers := s.answers
    draws := s.draws }

/-- What a command may do to the state: it touches the pairing, `cv_index`, the log and the draws only, appends to the log,
and never makes `pair` the unused code. -/
structure CommandEffect (s t : State) : Prop where
  frame : t.withInterpreterOf s = s
  log : s.evLog <+: t.evLog
  pairDefined : s.pair ≠ .unused → t.pair ≠ .unused

namespace CommandEffect

theorem refl (s : State) : CommandEffect s s := ⟨rfl, List.prefix_rfl, id⟩

theorem trans {s t u : State} (h₁ : CommandEffect s t) (h₂ : CommandEffect t u) : CommandEffect s u where
  frame := calc
    u.withInterpreterOf s = (u.withInterpreterOf t).withInterpreterOf s := rfl
    _ = t.withInterpreterOf s := by rw [h₂.frame]
    _ = s := h₁.frame
  log := h₁.log.trans h₂.log
  pairDefined := h₂.pairDefined ∘ h₁.pairDefined

theorem emitAll (s : State) (es : List Event) : CommandEffect s (s.emitAll es) :=
  ⟨rfl, List.prefix_append _ _, id⟩

theorem emit (s : State) (e : Event) : CommandEffect s (s.emit e) := emitAll s [e]

theorem armPairing {p : PairState} (hp : p ≠ .unused) (s : State) (low : Byte) :
    CommandEffect s (s.armPairing p low) :=
  ⟨rfl, List.prefix_rfl, fun _ => hp⟩

theorem clearPairing (s : State) : CommandEffect s s.clearPairing :=
  ⟨rfl, List.prefix_rfl, fun _ => PairState.noConfusion⟩

theorem setCvIndex (s : State) (v : Byte) : CommandEffect s (s.setCvIndex v) := ⟨rfl, List.prefix_rfl, id⟩

theorem drawAnswer (s : State) : CommandEffect s s.drawAnswer := ⟨rfl, List.prefix_rfl, id⟩

theorem ackIf (s : State) (due : Bool) : CommandEffect s (s.ackIf due) := s.ackIf_eq due ▸ emitAll s _

theorem currentByte (v : Byte) (s : State) : CommandEffect s (Machine.currentByte v s).2 := by
  cases h : isIndexCV s.params.indexCvKey v with
  | true => rw [currentByte_index h]; exact refl s
  | false => rw [currentByte_storage h]; exact (drawAnswer s).trans (emit _ _)

theorem storeCV (v val : Byte) (s : State) : CommandEffect s (Machine.storeCV v val s) := by
  cases h : isIndexCV s.params.indexCvKey v with
  | true => rw [storeCV_index h]; exact (setCvIndex s val).trans (emit _ _)
  | false => rw [storeCV_storage h]; exact ((drawAnswer s).trans (emit _ _)).trans (emitAll _ _)

theorem cvCheck (v a : Byte) (s : State) : CommandEffect s (Machine.cvCheck v a s) :=
  (currentByte v s).trans (ackIf _ _)

theorem cvBitAccess (v a : Byte) (s : State) : CommandEffect s (Machine.cvBitAccess v a s) := by
  unfold Machine.cvBitAccess
  split
  · dsimp only
    split
    · exact (currentByte v s).trans (storeCV _ _ _)
    · exact (currentByte v s).trans (ackIf _ _)
  · exact refl s

theorem cvFactoryReset (v a : Byte) (s : State) : CommandEffect s (Machine.cvFactoryReset v a s) := by
  unfold Machine.cvFactoryReset
  split
  · exact (emit s _).trans (ackIf _ _)
  · exact refl s

theorem cvAccess {body : State → State} (cmd v : Byte) (s : State) (hbody : CommandEffect s (body s)) :
    CommandEffect s (Machine.cvAccess cmd v body s) := by
  rcases cvAccess_cases cmd v body s with ⟨-, hrun⟩ | hskip
  · rwa [hrun]
  · rw [hskip]; exact refl s

section
variable {s t : State} (h : CommandEffect s t)
include h

theorem faState : t.faState = s.faState := (congrArg State.faState h.frame :)
theorem faCmd : t.faCmd = s.faCmd := (congrArg State.faCmd h.frame :)
theorem slots : t.slots = s.slots := (congrArg State.slots h.frame :)
theorem qWr : t.qWr = s.qWr := (congrArg State.qWr h.frame :)
theorem qRd : t.qRd = s.qRd := (congrArg State.qRd h.frame :)
theorem slaveAddr : t.slaveAddr = s.slaveAddr := (congrArg State.slaveAddr h.frame :)
theorem drainActive : t.drainActive = s.drainActive := (congrArg State.drainActive h.frame :)
theorem drainSeen : t.drainSeen = s.drainSeen := (congrArg State.drainSeen h.frame :)
theorem drainUnknown : t.drainUnknown = s.drainUnknown := (congrArg State.drainUnknown h.frame :)
theorem initDone : t.initDone = s.initDone := (congrArg State.initDone h.frame :)
theorem params : t.params = s.params := (congrArg State.params h.frame :)
theorem drainReturns : t.drainReturns = s.drainReturns := (congrArg State.drainReturns h.frame :)
theorem inputs : t.inputs = s.inputs := (congrArg State.inputs h.frame :)
theorem headSlot : t.slotAt t.qRd = s.slotAt s.qRd := by rw [State.slotAt, h.slots, h.qRd, State.slotAt]
theorem queueWf (hq : s.QueueWf) : t.QueueWf := State.queueWf_congr h.slots h.qWr h.qRd h.params hq
theorem queued : t.queued = s.queued := State.queued_congr h.slots h.qRd h.params

end

end CommandEffect

/-! ### The registered handlers -/

/-- The state with another set of registered handlers (R31). -/
def State.withHandlers (s : State) (hs : List EventKind) : State :=
  { s with params := { s.params with handlers := hs } }

/-- The operation does the same whichever handlers are registered. -/
def HandlerBlind (d : State → State) : Prop := ∀ hs s, d (s.withHandlers hs) = (d s).withHandlers hs

/-- A choice the handlers do not decide, between two such operations, is one itself. -/
theorem HandlerBlind.ite {c : State → Prop} [∀ s, Decidable (c s)] {f g : State → State}
    (hc : ∀ hs s, c (State.withHandlers s hs) ↔ c s) (hf : HandlerBlind f) (hg : HandlerBlind g) :
    HandlerBlind fun s => if c s then f s else g s := by
  intro hs s
  by_cases h : c s
  · simpa [h, hc hs s] using hf hs s
  · simpa [h, hc hs s] using hg hs s

theorem ackIf_handlerBlind (due : Bool) : HandlerBlind (·.ackIf due) :=
  .ite (c := fun _ => due = true) (fun _ _ => Iff.rfl) (fun _ _ => rfl) (fun _ _ => rfl)

theorem currentByte_withHandlers (v : Byte) (hs : List EventKind) (s : State) :
    currentByte v (s.withHandlers hs) = ((currentByte v s).1, (currentByte v s).2.withHandlers hs) := by
  cases h : isIndexCV s.params.indexCvKey v with
  | true => rw [currentByte_index h, currentByte_index (s := s.withHandlers hs) h]; rfl
  | false => rw [currentByte_storage h, currentByte_storage (s := s.withHandlers hs) h]; rfl

theorem storeCV_handlerBlind (v val : Byte) : HandlerBlind (storeCV v val) := by
  intro hs s
  cases h : isIndexCV s.params.indexCvKey v with
  | true => rw [storeCV_index h, storeCV_index (s := s.withHandlers hs) h]; rfl
  | false => rw [storeCV_storage h, storeCV_storage (s := s.withHandlers hs) h]; rfl

theorem cvCheck_handlerBlind (v a : Byte) : HandlerBlind (cvCheck v a) := by
  intro hs s
  simp only [cvCheck, currentByte_withHandlers]
  exact ackIf_handlerBlind _ hs _

theorem cvBitAccess_handlerBlind (v a : Byte) : HandlerBlind (cvBitAccess v a) := by
  intro hs s
  simp only [cvBitAccess, currentByte_withHandlers]
  split
  · split
    · exact storeCV_handlerBlind _ _ hs _
    · exact ackIf_handlerBlind _ hs _
  · rfl

theorem cvFactoryReset_handlerBlind (v a : Byte) : HandlerBlind (cvFactoryReset v a) :=
  .ite (c := fun _ => v = 0x07) (fun _ _ => Iff.rfl) (fun _ _ => rfl) (fun _ _ => rfl)

theorem cvAccess_handlerBlind (cmd v : Byte) {body : State → State} (hbody : HandlerBlind body) :
    HandlerBlind (cvAccess cmd v body) :=
  .ite (fun _ _ => Iff.rfl) hbody (fun _ _ => rfl)

/-! ### Every instruction is Process around such a stage -/

/-- The instructions of the rows UNK3 and UNK2 (R103). -/
def isUnknownInstr : Instr → Bool
  | .unk3x70 .. | .unk3x74 .. | .unk3x76 .. | .unk3x78 .. | .unk3x7A .. | .unk3x7D .. | .unk3x7E .. => true
  | .unk2x01 .. | .unk2x02 .. | .unk2x04 .. | .unk2x08 .. | .unk2x10 .. | .unk2x20 .. | .unk2x22 .. => true
  | .unk2x27 .. | .unk2x32 .. | .unk2x34 .. | .unk2x38 .. | .unk2x44 .. | .unk2x48 .. | .unk2x53 .. => true
  | .unk2x54 .. | .unk2x58 .. | .unk2x5C .. | .unk2x69 .. | .unk2x6A .. | .unk2x80 .. => true
  | _ => false

/-- `drain_unknown`, once set, stays set; an unknown opcode sets it (R103). -/
def State.noteUnknown (s : State) (unknown : Bool) : State := { s with drainUnknown := s.drainUnknown || unknown }

theorem State.noteUnknown_false (s : State) : s.noteUnknown false = s := by
  simp [State.noteUnknown]

theorem State.noteUnknown_true (s : State) : s.noteUnknown true = s.markUnknown := by
  simp [State.noteUnknown, State.markUnknown]

/-- What every dispatch stage keeps to: it has the effect of a command once an unknown opcode is noted, and does not look at
the handlers. -/
structure DispatchStage (unknown : Bool) (d : State → State) : Prop where
  effect : ∀ s, CommandEffect (s.noteUnknown unknown) (d s)
  blind : HandlerBlind d

namespace DispatchStage

theorem command {d : State → State} (effect : ∀ s, CommandEffect s (d s)) (blind : HandlerBlind d) :
    DispatchStage false d :=
  ⟨fun s => s.noteUnknown_false.symm ▸ effect s, blind⟩

theorem emit {f : State → Event} (hf : ∀ hs s, f (State.withHandlers s hs) = f s) :
    DispatchStage false fun s => s.emit (f s) :=
  command (fun s => .emit s (f s)) fun hs s => congrArg (s.withHandlers hs).emit (hf hs s)

theorem arm {p : PairState} (hp : p ≠ .unused) (low : Byte) : DispatchStage false (·.armPairing p low) :=
  command (fun s => .armPairing hp s low) fun _ _ => rfl

/-- The stage of a continuation: an event from the cached byte if its pairing is pending, nothing otherwise. -/
theorem continuation (p : PairState) (f : Byte → Event) :
    DispatchStage false fun s => if s.pair = p then (s.emit (f s.pairLow)).clearPairing else s := by
  refine command (fun s => ?_) (.ite (fun _ _ => Iff.rfl) (fun _ _ => rfl) fun _ _ => rfl)
  split
  · exact (CommandEffect.emit s _).trans (.clearPairing _)
  · exact .refl s

/-- The stage of BIN: one event or the broadcast. -/
theorem binaryState (c : Prop) [Decidable c] (e : Event) (es : List Event) :
    DispatchStage false fun s => if c then s.emit e else s.emitAll es := by
  refine command (fun s => ?_) (.ite (c := fun _ => c) (fun _ _ => Iff.rfl) (fun _ _ => rfl) fun _ _ => rfl)
  split
  · exact .emit s e
  · exact .emitAll s es

theorem cv {body : State → State} (cmd v : Byte) (effect : ∀ s, CommandEffect s (body s))
    (blind : HandlerBlind body) : DispatchStage false (cvAccess cmd v body) :=
  command (fun s => .cvAccess cmd v s (effect s)) (cvAccess_handlerBlind cmd v blind)

theorem unknown (cmd arg1 : Byte) : DispatchStage true (dispatchUnknown cmd arg1) :=
  ⟨fun s => s.noteUnknown_true.symm ▸ .emit s.markUnknown (.unknownMessage cmd arg1), fun _ _ => rfl⟩

end DispatchStage

/-- The state a dispatch stage starts from: the raw event logged, the pairing cancelled unless awaited (R82, R83). -/
def State.beforeDispatch (s : State) (i : Instr) : State :=
  { s with
    pair := pairAfterCancel s.pair i.cmd
    evLog := s.evLog ++ [rawEvent i.cmd i.arg1 i.arg2] }

theorem CommandEffect.beforeDispatch (i : Instr) (s : State) : CommandEffect s (s.beforeDispatch i) :=
  ⟨rfl, List.prefix_append _ _, fun _ => pairAfterCancel_ne_unused _ _⟩

/-- Every meaning is Process of the instruction's packet around a dispatch stage (R81, R84). -/
theorem exec_eq_processPacket (i : Instr) :
    ∃ d, (∀ s, exec i s = processPacket ⟨i.cmd, i.arg1, i.arg2⟩ d s) ∧ DispatchStage (isUnknownInstr i) d := by
  cases i with
  | nop _ | trig _ | mcur _ | aspd24 _ | aspd50 _ | rspd25 _ | rspd51 _ | mload _ | agrp _ _ | adir _ _ | aux _ _
  | dspd _ | fgrp60 _ _ | fgrp68 _ | mctl _ =>
    dsimp only [exec]
    refine ⟨_, fun _ => rfl, ?_⟩
    exact .emit fun _ _ => rfl
  | bin _ => exact ⟨_, fun _ => rfl, .binaryState _ _ _⟩
  | madl _ | binl _ => exact ⟨_, fun _ => rfl, .arm PairState.noConfusion _⟩
  | madh a => exact ⟨_, fun _ => rfl, .continuation _ fun low => .masterAddress (masterAddress a low)⟩
  | binh a => exact ⟨_, fun _ => rfl, .continuation _ fun low => .binaryStateLong (longNumber a low) (topBit low)⟩
  | cvchk v a => exact ⟨_, fun _ => rfl, .cv _ v (.cvCheck v a) (cvCheck_handlerBlind v a)⟩
  | cvbit v a => exact ⟨_, fun _ => rfl, .cv _ v (.cvBitAccess v a) (cvBitAccess_handlerBlind v a)⟩
  | cvrst v a => exact ⟨_, fun _ => rfl, .cv _ v (.cvFactoryReset v a) (cvFactoryReset_handlerBlind v a)⟩
  | cvwr v a => exact ⟨_, fun _ => rfl, .cv _ v (.storeCV v a) (storeCV_handlerBlind v a)⟩
  | _ => exact ⟨_, fun _ => rfl, .unknown _ _⟩

theorem exec_eq_dispatch (i : Instr) :
    ∃ d, (∀ s, exec i s = .next (d (s.beforeDispatch i))) ∧ DispatchStage (isUnknownInstr i) d := by
  obtain ⟨d, hexec, hd⟩ := exec_eq_processPacket i
  exact ⟨d, fun s => (hexec s).trans (processPacket_eq _ d s), hd⟩

/-- A packet of any opcode completes with the effect of a command, on a state whose `drain_unknown` an unknown opcode has
set. -/
theorem exec_effect (i : Instr) (s : State) :
    ∃ t, exec i s = .next t ∧ CommandEffect (s.noteUnknown (isUnknownInstr i)) t := by
  obtain ⟨d, hexec, hd⟩ := exec_eq_dispatch i
  exact ⟨_, hexec s, .trans (.beforeDispatch i _) (hd.effect (s.beforeDispatch i))⟩

/-- The effect of a packet, read off a completed `exec`. -/
theorem effect_of_exec {i : Instr} {s t : State} (h : exec i s = .next t) :
    CommandEffect (s.noteUnknown (isUnknownInstr i)) t := by
  obtain ⟨u, hu, heffect⟩ := exec_effect i s
  cases h.symm.trans hu
  exact heffect

/-- No packet looks at the registered handlers (R31). -/
theorem exec_withHandlers {i : Instr} {s t : State} (hs : List EventKind) (h : exec i s = .next t) :
    exec i (s.withHandlers hs) = .next (t.withHandlers hs) := by
  obtain ⟨d, hexec, hd⟩ := exec_eq_dispatch i
  cases (hexec s).symm.trans h
  exact (hexec _).trans (congrArg Host.Outcome.next (hd.blind hs (s.beforeDispatch i)))

/-- Settles O43: the frame of a command, and `drain_unknown` beside it. -/
theorem packetFrame : Obligations.PacketFrame := by
  intro i s
  obtain ⟨t, hexec, heffect⟩ := exec_effect i s
  exact ⟨t, hexec, congrArg (fun u : State => { u with drainUnknown := s.drainUnknown }) heffect.frame⟩

end Sys2Proof.Machine
end

section
/-! The moves of `step`, with a name for each, and what every move keeps: the invariants of 10_state.md R36, the identity,
the pairing, the log. -/

namespace Sys2Proof.Machine

open Sys2Proof.Config

/-! ### The moves by name -/

/-- The moves of the agents and what enables each: `step_cases` and its converse, as one relation. -/
inductive Move (s : State) : State → Prop
  | byteArrived {b : Nat} {rest : List Input} (hi : s.inputs = .byteArrived b :: rest) (hb : b ≤ 0xFF)
      (hinit : s.initDone = true) : Move s (byteArrived (BitVec.ofNat 8 b) s.popInput)
  | resync {rest : List Input} (hi : s.inputs = .resync :: rest) (hinit : s.initDone = true) :
      Move s (resync s.popInput)
  | drainStart {rest : List Input} (hi : s.inputs = .drain :: rest) (hinit : s.initDone = true)
      (hdrain : s.drainActive = false) : Move s (drainStart s.popInput)
  | initExplicit {n : Nat} {rest : List Input} (hi : s.inputs = .init (.explicit n) :: rest) (hn : n ≤ 0xFF)
      (hdrain : s.drainActive = false) : Move s (initExplicit (BitVec.ofNat 8 n) s.popInput)
  | initStorage {rest : List Input} (hi : s.inputs = .init .storage :: rest) (hdrain : s.drainActive = false) :
      Move s (initStorage s.popInput)
  | drainEnd (hp : s.ProcessingNext) (hinit : s.initDone = true) (hdrain : s.drainActive = true)
      (hocc : (s.slotAt s.qRd).occ = false) : Move s (drainEnd s.popInput)
  | packet {u : State} (hp : s.ProcessingNext) (hinit : s.initDone = true) (hdrain : s.drainActive = true)
      (hocc : (s.slotAt s.qRd).occ = true) (hexec : exec s.fetch s.popInput.markSeen = .next u) :
      Move s u.releaseSlot
  | wait (hi : s.inputs = []) (hdrain : s.drainActive = false) : Move s s

theorem move_of_step {s t : State} (h : step s = .next t) : Move s t := by
  rcases step_cases h with ⟨b, rest, hi, hb, hinit, rfl⟩ | ⟨rest, hi, hinit, rfl⟩ | ⟨rest, hi, hinit, hdrain, rfl⟩ |
    ⟨n, rest, hi, hn, hdrain, rfl⟩ | ⟨rest, hi, hdrain, rfl⟩ | ⟨hp, hinit, hdrain, hocc, rfl⟩ |
    ⟨hp, hinit, hdrain, hocc, u, hexec, rfl⟩ | ⟨hi, hdrain, rfl⟩
  · exact .byteArrived hi hb hinit
  · exact .resync hi hinit
  · exact .drainStart hi hinit hdrain
  · exact .initExplicit hi hn hdrain
  · exact .initStorage hi hdrain
  · exact .drainEnd hp hinit hdrain hocc
  · exact .packet hp hinit hdrain hocc hexec
  · exact .wait hi hdrain

theorem step_of_cons {s : State} {m : Input} {rest : List Input} (hi : s.inputs = m :: rest) :
    step s = perform m s.popInput :=
  step_of_head (by rw [hi]; rfl)

theorem State.popInput_of_nil {s : State} (hi : s.inputs = []) : s.popInput = s := by
  rw [State.popInput, hi, List.tail_nil, ← hi]

/-- PC's step inside a Drain is the same, whether its turn is presented or the Drain goes on by itself. -/
theorem step_of_processingNext {s : State} (hp : s.ProcessingNext) (hdrain : s.drainActive = true) :
    step s = processingStep s.popInput := by
  rcases hp with hi | hhead
  · rw [State.popInput_of_nil hi]
    simp [step, nextMove, hi, unprompted, hdrain]
  · exact step_of_head hhead

/-- Each move is made where it is enabled: the converse of `move_of_step`. -/
theorem step_of_move {s t : State} (h : Move s t) : step s = .next t := by
  cases h with
  | byteArrived hi hb hinit =>
    rw [step_of_cons hi]
    simp [perform, byteStep, Nat.not_lt.mpr hb, hinit]
  | resync hi hinit =>
    rw [step_of_cons hi]
    simp [perform, resyncStep, hinit]
  | drainStart hi hinit hdrain =>
    rw [step_of_cons hi]
    simp [perform, drainStep, hinit, hdrain]
  | initExplicit hi hn hdrain =>
    rw [step_of_cons hi]
    simp [perform, initStep, Nat.not_lt.mpr hn, hdrain]
  | initStorage hi hdrain =>
    rw [step_of_cons hi]
    simp [perform, initStep, hdrain]
  | drainEnd hp hinit hdrain hocc =>
    have hocc' : (s.popInput.slotAt s.qRd).occ = false := hocc
    rw [step_of_processingNext hp hdrain]
    simp [processingStep, hinit, hdrain, hocc']
  | packet hp hinit hdrain hocc hexec =>
    have hocc' : (s.popInput.slotAt s.qRd).occ = true := hocc
    have hexec' : exec s.popInput.fetch s.popInput.markSeen = .next _ := hexec
    rw [step_of_processingNext hp hdrain]
    simp [processingStep, consumeOne, hinit, hdrain, hocc', hexec']
  | wait hi hdrain => simp [step, nextMove, hi, unprompted, hdrain]

theorem State.NoInitNext.not_init {s : State} (h : s.NoInitNext) {src : IdentitySource} {rest : List Input}
    (hi : s.inputs = .init src :: rest) : False :=
  h src (by rw [hi]; rfl)

/-! ### The moves other than Init and a packet -/

/-- A byte, a resync, the two ends of a Drain and waiting write neither the pairing nor the log (R22, R51). -/
theorem quiet_step_frame {s t : State} (h : step s = .next t) (hinit : s.NoInitNext)
    (hpacket : s.ProcessingNext → s.drainActive = true → (s.slotAt s.qRd).occ = false) :
    t.pair = s.pair ∧ t.pairLow = s.pairLow ∧ t.evLog = s.evLog := by
  cases move_of_step h with
  | byteArrived => rw [byteArrived_frame]; exact ⟨rfl, rfl, rfl⟩
  | resync | drainStart | drainEnd | wait => exact ⟨rfl, rfl, rfl⟩
  | initExplicit hi | initStorage hi => exact (hinit.not_init hi).elim
  | packet hp _ hdrain hocc => exact absurd (hpacket hp hdrain) (by simp [hocc])

/-! ### Init -/

/-- What an Init of either source leaves: the values of R35 with a legal identity, the log with the storage calls appended,
and the draws those took. -/
def InitEffect (s t : State) : Prop :=
  ∃ (id : BitVec 2) (calls : List Event) (answers : List Byte) (draws : Nat), id ≠ 0 ∧
    t = { s.initialised id with evLog := s.evLog ++ calls, answers := answers, draws := draws }

theorem initExplicit_effect {n : Nat} (hn : n ≤ 0xFF) (s : State) :
    InitEffect s (initExplicit (BitVec.ofNat 8 n) s) := by
  refine ⟨if n = 2 then 2 else if n = 3 then 3 else 1, [], s.answers, s.draws, ?_, ?_⟩
  · split
    · decide
    · split <;> decide
  · rw [initExplicit_eq hn, List.append_nil]
    rfl

theorem initStorage_effect (s : State) : InitEffect s (initStorage s) := by
  rw [initStorage_eq]
  split
  · next h =>
    refine ⟨_, _, _, _, ?_, rfl⟩
    rcases h with h | h | h <;> rw [h] <;> decide
  · exact ⟨_, _, _, _, by decide, rfl⟩

theorem InitEffect.inv {s t : State} (h : InitEffect s t) (hq : 1 ≤ s.params.qcap) : t.Inv := by
  obtain ⟨id, calls, answers, draws, hid, rfl⟩ := h
  exact {
    afterInit := rfl
    i1 := FaState.noConfusion
    i2 := PairState.noConfusion
    i3 := hid
    i4 := State.queueWf_congr (s := s.clearSession) rfl rfl rfl rfl (State.clearSession_queueWf hq).1
    i5 := Bool.noConfusion }

theorem InitEffect.framesWf {s t : State} (h : InitEffect s t) : t.FramesWf := by
  obtain ⟨id, calls, answers, draws, -, rfl⟩ := h
  refine ⟨FaState.noConfusion, fun sl hsl hocc => ?_⟩
  rw [List.eq_of_mem_replicate hsl] at hocc
  cases hocc

theorem InitEffect.log {s t : State} (h : InitEffect s t) : s.evLog <+: t.evLog := by
  obtain ⟨id, calls, answers, draws, -, rfl⟩ := h
  exact List.prefix_append _ _

/-- Settles O41: either Init is enabled, and what it leaves meets the invariants. -/
theorem initEstablishesInvariant : Obligations.InitEstablishesInvariant := by
  intro s hdrain hq hmove
  have hinit : ∃ t, step s = .next t ∧ InitEffect s.popInput t := by
    rcases hmove with hhead | ⟨n, hn, hhead⟩
    · obtain ⟨rest, hi⟩ := List.head?_eq_some_iff.mp hhead
      exact ⟨_, step_of_move (.initStorage hi hdrain), initStorage_effect _⟩
    · obtain ⟨rest, hi⟩ := List.head?_eq_some_iff.mp hhead
      exact ⟨_, step_of_move (.initExplicit hi hn hdrain), initExplicit_effect hn _⟩
  obtain ⟨t, hstep, heffect⟩ := hinit
  exact ⟨t, hstep, heffect.inv hq, heffect.framesWf⟩

/-- Settles O39: the reset state is the outcome of an Init on itself. -/
theorem resetMeetsInvariant : Obligations.ResetMeetsInvariant := by
  have hreset : InitEffect State.reset State.reset := ⟨1, [], [], 0, by decide, rfl⟩
  exact ⟨hreset.inv (by decide), hreset.framesWf⟩

/-! ### The invariants I1 to I5 -/

theorem State.Inv.popInput {s : State} (h : s.Inv) : s.popInput.Inv :=
  { h with i4 := State.queueWf_congr rfl rfl rfl rfl h.i4 }

theorem State.Inv.setAssembler {s : State} (h : s.Inv) {st : FaState} (hst : st ≠ .undefined) (cmd arg1 : Byte) :
    (s.setAssembler st cmd arg1).Inv :=
  { h with i1 := hst, i4 := State.queueWf_congr rfl rfl rfl rfl h.i4 }

theorem State.Inv.enqueue {s : State} (h : s.Inv) (p : Packet) : (enqueue p s).2.Inv := by
  have hq : (Machine.enqueue p s).2.QueueWf := (enqueue_queued h.i4 p).1
  rw [enqueue_frame] at hq ⊢
  exact { h with i4 := hq }

theorem State.Inv.byteArrived {s : State} (h : s.Inv) (b : Byte) : (byteArrived b s).Inv := by
  unfold Machine.byteArrived
  split
  · exact h.setAssembler FaState.noConfusion _ _
  · split
    · exact h.setAssembler FaState.noConfusion _ _
    · exact (h.enqueue _).setAssembler FaState.noConfusion _ _
  · exact (h.enqueue _).setAssembler FaState.noConfusion _ _
  · exact h.setAssembler FaState.noConfusion _ _

theorem State.Inv.drainStart {s : State} (h : s.Inv) : (drainStart s).Inv :=
  { h with i4 := State.queueWf_congr rfl rfl rfl rfl h.i4, i5 := Bool.noConfusion }

theorem State.Inv.drainEnd {s : State} (h : s.Inv) : (drainEnd s).Inv :=
  { h with i4 := State.queueWf_congr rfl rfl rfl rfl h.i4 }

theorem State.Inv.markSeen {s : State} (h : s.Inv) : s.markSeen.Inv :=
  { h with i4 := State.queueWf_congr rfl rfl rfl rfl h.i4, i5 := fun _ => rfl }

theorem State.Inv.releaseSlot {s : State} (h : s.Inv) (hocc : (s.slotAt s.qRd).occ = true) : s.releaseSlot.Inv :=
  { h with i4 := (State.releaseSlot_queued h.i4 hocc).1 }

/-- A packet of any opcode keeps the invariants once `drain_seen` is set. -/
theorem State.Inv.exec {s t : State} (h : s.Inv) {i : Instr} (hseen : s.drainSeen = true)
    (hexec : exec i s = .next t) : t.Inv :=
  have heffect := effect_of_exec hexec
  { afterInit := heffect.initDone.trans h.afterInit
    i1 := heffect.faState ▸ h.i1
    i2 := heffect.pairDefined h.i2
    i3 := heffect.slaveAddr ▸ h.i3
    i4 := heffect.queueWf (State.queueWf_congr rfl rfl rfl rfl h.i4)
    i5 := fun _ => heffect.drainSeen.trans hseen }

theorem State.Inv.one_le_qcap {s : State} (h : s.Inv) : 1 ≤ s.params.qcap :=
  Nat.one_le_of_lt h.i4.2.1

/-- The slot at the head of the queue is as before the packet was processed. -/
theorem headSlot_of_exec {s t : State} {i : Instr} (hexec : exec i s.popInput.markSeen = .next t) :
    t.slotAt t.qRd = s.slotAt s.qRd :=
  (effect_of_exec hexec).headSlot

/-- Every move keeps I1 to I5. -/
theorem inv_of_step {s t : State} (h : s.Inv) (hstep : step s = .next t) : t.Inv := by
  cases move_of_step hstep with
  | byteArrived => exact h.popInput.byteArrived _
  | resync => exact h.popInput.setAssembler FaState.noConfusion _ _
  | drainStart => exact h.popInput.drainStart
  | initExplicit _ hn => exact (initExplicit_effect hn _).inv h.one_le_qcap
  | initStorage => exact (initStorage_effect _).inv h.one_le_qcap
  | drainEnd => exact h.popInput.drainEnd
  | packet _ _ _ hocc hexec =>
    exact (h.popInput.markSeen.exec rfl hexec).releaseSlot (headSlot_of_exec hexec ▸ hocc)
  | wait => exact h

/-- Settles O40, move by move: `inv_of_step`. -/
theorem stepKeepsInvariant : Obligations.StepKeepsInvariant := fun _ _ => inv_of_step

/-! ### The frames of the assembler and of the queue -/

/-- Enqueue puts at most its packet into the slots. -/
theorem mem_enqueue_slots {p : Packet} {s : State} {sl : Slot} (h : sl ∈ (enqueue p s).2.slots) :
    sl ∈ s.slots ∨ sl = ⟨true, p.cmd, p.arg1, p.arg2⟩ := by
  unfold enqueue at h
  split at h
  · exact .inl h
  · exact List.mem_or_eq_of_mem_set h

/-- The release of a slot leaves each slot as it was or free. -/
theorem mem_releaseSlot_slots {s : State} {sl : Slot} (h : sl ∈ s.releaseSlot.slots) : sl ∈ s.slots ∨ sl.occ = false := by
  rcases List.mem_or_eq_of_mem_set h with hmem | rfl
  · exact .inl hmem
  · exact .inr rfl

/-- A frame that goes to the queue from a well-formed state. -/
theorem enqueue_framesWf {s : State} (h : s.FramesWf) {p : Packet}
    (hp : isThreeByte p.cmd = false → p.arg2 = 0x00) (cmd arg1 : Byte) :
    ((enqueue p s).2.setAssembler .expectCommand cmd arg1).FramesWf := by
  refine ⟨FaState.noConfusion, fun sl hsl hocc => ?_⟩
  rcases mem_enqueue_slots hsl with hmem | rfl
  · exact h.2 sl hmem hocc
  · exact hp

theorem byteArrived_framesWf {s : State} (h : s.FramesWf) (b : Byte) : (byteArrived b s).FramesWf := by
  unfold byteArrived
  split
  · exact ⟨FaState.noConfusion, h.2⟩
  · split
    · next hthree => exact ⟨fun _ => hthree, h.2⟩
    · exact enqueue_framesWf h (fun _ => rfl) _ _
  · next hst =>
    have hthree : isThreeByte s.faCmd = true := h.1 hst
    exact enqueue_framesWf h (fun htwo => absurd htwo (by simp [hthree])) _ _
  · exact ⟨FaState.noConfusion, h.2⟩

theorem packet_framesWf {s t : State} {i : Instr} (h : s.FramesWf) (hexec : exec i s.popInput.markSeen = .next t) :
    t.releaseSlot.FramesWf := by
  have heffect := effect_of_exec hexec
  refine ⟨fun hst => ?_, fun sl hsl hocc => ?_⟩
  · have hcmd : t.faCmd = s.faCmd := heffect.faCmd
    exact hcmd ▸ h.1 (heffect.faState.symm.trans hst)
  · rcases mem_releaseSlot_slots hsl with hmem | hfree
    · exact h.2 sl (heffect.slots ▸ hmem) hocc
    · exact absurd hocc (by simp [hfree])

/-- Settles O42: only a byte makes new frames, and it makes them of the length of their command. -/
theorem stepKeepsFramesWellFormed : Obligations.StepKeepsFramesWellFormed := by
  intro s t h hstep
  cases move_of_step hstep with
  | byteArrived => exact byteArrived_framesWf (s := s.popInput) h _
  | resync => exact ⟨FaState.noConfusion, h.2⟩
  | drainStart | drainEnd | wait => exact h
  | initExplicit _ hn => exact (initExplicit_effect hn _).framesWf
  | initStorage => exact (initStorage_effect _).framesWf
  | packet _ _ _ _ hexec => exact packet_framesWf h hexec

/-! ### The identity, the pairing and the log -/

/-- Settles O47: the move is no Init, and no other writes `slave_addr`. -/
theorem identityFixedForTheSession : Obligations.IdentityFixedForTheSession := by
  intro s t hinit hstep
  cases move_of_step hstep with
  | byteArrived => rw [byteArrived_frame]; rfl
  | resync | drainStart | drainEnd | wait => rfl
  | initExplicit hi | initStorage hi => exact (hinit.not_init hi).elim
  | packet _ _ _ _ hexec => exact (effect_of_exec hexec).slaveAddr

/-- Settles O49: with Init and packets excluded, the move is a quiet one. -/
theorem onlyPacketsTouchThePairing : Obligations.OnlyPacketsTouchThePairing := by
  intro s t hinit hpacket hstep
  obtain ⟨hpair, hlow, -⟩ := quiet_step_frame hstep hinit hpacket
  exact ⟨hpair, hlow⟩

theorem log_prefix_of_step {s t : State} (h : step s = .next t) : s.evLog <+: t.evLog := by
  cases move_of_step h with
  | byteArrived => rw [byteArrived_frame]; exact List.prefix_rfl
  | resync | drainStart | drainEnd | wait => exact List.prefix_rfl
  | initExplicit _ hn => exact (initExplicit_effect hn s.popInput).log
  | initStorage => exact (initStorage_effect s.popInput).log
  | packet _ _ _ _ hexec => exact (effect_of_exec hexec).log

/-- Settles O52: every move extends the log, and a quiet one leaves it. -/
theorem logOnlyGrows : Obligations.LogOnlyGrows := by
  intro s t hstep
  obtain ⟨es, hes⟩ := log_prefix_of_step hstep
  refine ⟨es, hes.symm, fun hinit hpacket => ?_⟩
  obtain ⟨-, -, hlog⟩ := quiet_step_frame hstep hinit hpacket
  exact List.append_right_eq_self.mp (hes.trans hlog)

/-! ### The handlers -/

theorem enqueue_withHandlers (p : Packet) (hs : List EventKind) (s : State) :
    (enqueue p (s.withHandlers hs)).2 = (enqueue p s).2.withHandlers hs := by
  cases h : (s.slotAt s.qWr).occ with
  | true => rw [enqueue_full p h, enqueue_full (s := s.withHandlers hs) p h]
  | false => rw [enqueue_free p h, enqueue_free (s := s.withHandlers hs) p h]; rfl

theorem byteArrived_handlerBlind (b : Byte) : HandlerBlind (byteArrived b) := by
  intro hs s
  have henqueue : ∀ p, ((enqueue p (s.withHandlers hs)).2).setAssembler .expectCommand s.faCmd s.faArg1 =
      (((enqueue p s).2).setAssembler .expectCommand s.faCmd s.faArg1).withHandlers hs := fun p =>
    congrArg (·.setAssembler .expectCommand s.faCmd s.faArg1) (enqueue_withHandlers p hs s)
  unfold byteArrived
  rw [show (s.withHandlers hs).faState = s.faState from rfl]
  cases s.faState with
  | expectCommand => rfl
  | expectArg1 =>
    rw [show (s.withHandlers hs).faCmd = s.faCmd from rfl]
    cases isThreeByte s.faCmd with
    | true => rfl
    | false => exact henqueue _
  | expectArg2 => exact henqueue _
  | undefined => rfl

theorem initStorage_handlerBlind : HandlerBlind initStorage := by
  intro hs s
  rw [initStorage_eq s, initStorage_eq (s.withHandlers hs)]
  rw [show (s.withHandlers hs).answerAt 0 = s.answerAt 0 from rfl]
  split <;> rfl

/-- Settles O51: each move is enabled whichever handlers are registered, and does the same. -/
theorem handlersNeverChangeTheCore : Obligations.HandlersNeverChangeTheCore := by
  intro hs s t hstep
  refine step_of_move (s := s.withHandlers hs) (t := t.withHandlers hs) ?_
  cases move_of_step hstep with
  | byteArrived hi hb hinit => exact byteArrived_handlerBlind _ hs s.popInput ▸ .byteArrived hi hb hinit
  | resync hi hinit => exact .resync hi hinit
  | drainStart hi hinit hdrain => exact .drainStart hi hinit hdrain
  | initExplicit hi hn hdrain => exact .initExplicit hi hn hdrain
  | initStorage hi hdrain => exact initStorage_handlerBlind hs s.popInput ▸ .initStorage hi hdrain
  | drainEnd hp hinit hdrain hocc => exact .drainEnd hp hinit hdrain hocc
  | packet hp hinit hdrain hocc hexec =>
    have hexec' := exec_withHandlers (s := s.popInput.markSeen) hs hexec
    exact .packet (s := s.withHandlers hs) hp hinit hdrain hocc hexec'
  | wait hi hdrain => exact .wait hi hdrain

/-! ### A byte or a resync inside a Drain -/

/-- Enqueue writes only a free slot. -/
theorem enqueue_slotAt_of_occ {s : State} {k : Nat} (p : Packet) (h : (s.slotAt k).occ = true) :
    (enqueue p s).2.slotAt k = s.slotAt k := by
  cases hw : (s.slotAt s.qWr).occ with
  | true => rw [enqueue_full p hw]
  | false =>
    have hne : s.qWr ≠ k := fun e => by simp [e, h] at hw
    rw [enqueue_free p hw]
    exact State.slotAt_writeSlot_ne hne _

theorem byteArrived_slotAt_of_occ {s : State} {k : Nat} (b : Byte) (h : (s.slotAt k).occ = true) :
    (byteArrived b s).slotAt k = s.slotAt k := by
  unfold byteArrived
  split
  · rfl
  · split
    · rfl
    · exact enqueue_slotAt_of_occ _ h
  · exact enqueue_slotAt_of_occ _ h
  · rfl

/-- A byte or a resync at the head of the inputs is the move taken. -/
theorem preempting_move {s t : State}
    (hmove : s.inputs.head? = some .resync ∨ ∃ b : Nat, s.inputs.head? = some (.byteArrived b))
    (hstep : step s = .next t) : t = resync s.popInput ∨ ∃ b, t = byteArrived b s.popInput := by
  cases move_of_step hstep with
  | resync => exact .inl rfl
  | byteArrived => exact .inr ⟨_, rfl⟩
  | drainStart hi | initExplicit hi | initStorage hi | wait hi => simp [hi] at hmove
  | drainEnd hp | packet hp => rcases hp with hi | hi <;> simp [hi] at hmove

/-- Settles O53: a byte touches the producer's side only, and writes a free slot or none. -/
theorem preemptionLeavesTheDrain : Obligations.PreemptionLeavesTheDrain := by
  intro s t hmove hstep
  rcases preempting_move hmove hstep with rfl | ⟨b, rfl⟩
  · exact ⟨rfl, fun _ _ => rfl⟩
  · refine ⟨?_, fun k hocc => byteArrived_slotAt_of_occ (s := s.popInput) b hocc⟩
    rw [byteArrived_frame]
    rfl

end Sys2Proof.Machine
end

section
/-! A Drain call with nothing else moving: one consumer step per queued packet, then DrainEnd with the status the packets
form (10_state.md R28, 41_packet_queue.md R76, R77). -/

namespace Sys2Proof.Machine

/-! ### The unknown opcodes in the decoder -/

/-- The rows of the command map with a meaning of their own build no unknown instruction (R59). -/
theorem named_rows_build_known (cmd arg1 arg2 : Byte) :
    ∀ r ∈ notifyRows ++ cvRows, isUnknownInstr (r.build cmd arg1 arg2) = false := by
  have hall : ((notifyRows ++ cvRows).all fun r => !isUnknownInstr (r.build cmd arg1 arg2)) = true := rfl
  simpa only [List.all_eq_true, Bool.not_eq_true'] using hall

theorem unknown_rows_build_unknown (cmd arg1 arg2 : Byte) :
    ∀ r ∈ unknown3Rows ++ unknown2Rows, isUnknownInstr (r.build cmd arg1 arg2) = true := by
  have hall : ((unknown3Rows ++ unknown2Rows).all fun r => isUnknownInstr (r.build cmd arg1 arg2)) = true := rfl
  simpa only [List.all_eq_true] using hall

/-- The named rows select exactly the command bytes that are no unknown opcode (R60). -/
theorem named_rows_select (cmd : Byte) :
    ((notifyRows ++ cvRows).find? (fun r => r.selects cmd)).isNone = isUnknownOpcode cmd := by
  revert cmd; decide +kernel

/-- The decoder makes an unknown instruction of a packet exactly when its opcode is unknown (R59, R60). -/
theorem isUnknownInstr_decodeFrame (cmd arg1 arg2 : Byte) :
    isUnknownInstr (decodeFrame cmd arg1 arg2) = isUnknownOpcode cmd := by
  have htable : opcodeTable = (notifyRows ++ cvRows) ++ (unknown3Rows ++ unknown2Rows) := by
    simp [opcodeTable]
  rw [← named_rows_select, decodeFrame, htable, List.find?_append]
  cases hnamed : (notifyRows ++ cvRows).find? (fun r => r.selects cmd) with
  | some r => exact named_rows_build_known cmd arg1 arg2 r (List.mem_of_find?_eq_some hnamed)
  | none =>
    cases hunknown : (unknown3Rows ++ unknown2Rows).find? (fun r => r.selects cmd) with
    | some r => exact unknown_rows_build_unknown cmd arg1 arg2 r (List.mem_of_find?_eq_some hunknown)
    | none => rfl

/-! ### One consumer step -/

/-- A queue in canonical form is empty exactly when the slot at the read cursor is free (R74). -/
theorem State.queued_eq_nil_iff {s : State} (h : s.QueueWf) : s.queued = [] ↔ (s.slotAt s.qRd).occ = false := by
  obtain ⟨-, hr, k, hk⟩ := h
  rw [State.read_slot_occ hr hk, ← List.length_eq_zero_iff, State.queued_length hk]
  simp

/-- ConsumeOne inside a Drain that goes on by itself: it takes the head packet, notes that there was one and whether its
opcode is unknown, and leaves the Drain as it is otherwise (R73, R103). -/
theorem consume_step {s : State} {p : Packet} {ps : List Packet} (hinv : s.Inv) (hdrain : s.drainActive = true)
    (hi : s.inputs = []) (hqueue : s.queued = p :: ps) :
    ∃ t, step s = .next t ∧ t.queued = ps ∧ t.drainActive = true ∧ t.inputs = [] ∧ t.drainSeen = true ∧
      t.drainUnknown = (s.drainUnknown || isUnknownOpcode p.cmd) ∧ t.drainReturns = s.drainReturns := by
  have hocc : (s.slotAt s.qRd).occ = true := by
    rw [← Bool.not_eq_false, ← State.queued_eq_nil_iff hinv.i4, hqueue]
    exact List.cons_ne_nil p ps
  obtain ⟨u, hexec, heffect⟩ := exec_effect s.fetch s.popInput.markSeen
  have hsplit := (State.releaseSlot_queued (heffect.queueWf hinv.popInput.i4) (headSlot_of_exec hexec ▸ hocc)).2
  have hqueue' : u.queued = p :: ps := heffect.queued.trans hqueue
  rw [hqueue', headSlot_of_exec hexec] at hsplit
  obtain ⟨hp, hps⟩ := List.cons.inj hsplit
  refine ⟨_, step_of_move (.packet (.inl hi) hinv.afterInit hdrain hocc hexec), hps.symm,
    heffect.drainActive.trans hdrain, heffect.inputs.trans ?_, heffect.drainSeen, heffect.drainUnknown.trans ?_,
    heffect.drainReturns⟩
  · exact (congrArg List.tail hi :)
  · rw [hp]
    exact congrArg (s.drainUnknown || ·) (isUnknownInstr_decodeFrame _ _ _)

/-! ### The whole call -/

/-- A Drain in progress with nothing else moving takes every packet and returns the status of the flags and the packets. -/
theorem drain_run {s : State} (hinv : s.Inv) (hdrain : s.drainActive = true) (hi : s.inputs = []) :
    ∃ t, runSteps (s.queued.length + 1) s = .next t ∧ t.drainActive = false ∧ t.queued = [] ∧ t.inputs = [] ∧
      t.drainReturns = s.drainReturns ++ [drainStatus (s.drainSeen || !s.queued.isEmpty)
        (s.drainUnknown || s.queued.any fun p => isUnknownOpcode p.cmd)] := by
  generalize hqueue : s.queued = ps
  induction ps generalizing s with
  | nil =>
    have hocc := (State.queued_eq_nil_iff hinv.i4).mp hqueue
    refine ⟨_, runSteps_of_step (step_of_move (.drainEnd (.inl hi) hinv.afterInit hdrain hocc)), rfl, ?_, ?_, ?_⟩
    · exact (State.queued_congr rfl rfl rfl).trans hqueue
    · exact (congrArg List.tail hi :)
    · simp
  | cons p ps ih =>
    obtain ⟨t, hstep, hps, hactive, hinputs, hseen, hunknown, hreturns⟩ := consume_step hinv hdrain hi hqueue
    obtain ⟨u, hrun, hend, hempty, hnone, hstatus⟩ := ih (inv_of_step hinv hstep) hactive hinputs hps
    refine ⟨u, (runSteps_of_step hstep).trans hrun, hend, hempty, hnone, ?_⟩
    rw [hstatus, hreturns, hseen, hunknown]
    simp [Bool.or_assoc]

/-- Settles O56: DrainStart, then the run of the Drain from cleared flags. -/
theorem drainCallEmptiesTheQueue : Obligations.DrainCallEmptiesTheQueue := by
  intro s hinv hdrain hi
  have hstep : step s = .next (drainStart s.popInput) := step_of_move (.drainStart hi hinv.afterInit hdrain)
  have hinputs : (drainStart s.popInput).inputs = [] := (congrArg List.tail hi :)
  have hqueue : (drainStart s.popInput).queued = s.queued := State.queued_congr rfl rfl rfl
  obtain ⟨t, hrun, hend, hempty, hnone, hstatus⟩ := drain_run (inv_of_step hinv hstep) rfl hinputs
  rw [hqueue] at hrun hstatus
  refine ⟨t, (runSteps_of_step hstep).trans hrun, hend, hempty, hnone, hstatus.trans ?_⟩
  cases s.queued with
  | nil => rfl
  | cons p ps => rfl

end Sys2Proof.Machine
end

section
/-! The decoder reads a well-formed instruction back from its own bytes (30_encoding.md R55, R56, R59): the law of each row,
put together over the rows, and what `decode` answers for a frame of each length. -/

namespace Sys2Proof

/-! ### The packet of an instruction -/

/-- The packet of a well-formed instruction of any row decodes to it: the laws of the rows, put together. -/
theorem decodeFrame_of_wellFormed : ∀ i, Laws.RoundTrip.Statement i
  | .nop a => Laws.RoundTrip.nop a
  | .trig a => Laws.RoundTrip.trig a
  | .mcur a => Laws.RoundTrip.mcur a
  | .aspd24 a => Laws.RoundTrip.aspd24 a
  | .aspd50 a => Laws.RoundTrip.aspd50 a
  | .rspd25 a => Laws.RoundTrip.rspd25 a
  | .rspd51 a => Laws.RoundTrip.rspd51 a
  | .mload a => Laws.RoundTrip.mload a
  | .agrp cmd a => Laws.RoundTrip.agrp cmd a
  | .adir cmd a => Laws.RoundTrip.adir cmd a
  | .aux cmd a => Laws.RoundTrip.aux cmd a
  | .dspd a => Laws.RoundTrip.dspd a
  | .madl a => Laws.RoundTrip.madl a
  | .madh a => Laws.RoundTrip.madh a
  | .fgrp60 cmd a => Laws.RoundTrip.fgrp60 cmd a
  | .fgrp68 a => Laws.RoundTrip.fgrp68 a
  | .mctl a => Laws.RoundTrip.mctl a
  | .bin a => Laws.RoundTrip.bin a
  | .binl a => Laws.RoundTrip.binl a
  | .binh a => Laws.RoundTrip.binh a
  | .cvchk a b => Laws.RoundTrip.cvchk a b
  | .cvbit a b => Laws.RoundTrip.cvbit a b
  | .cvrst a b => Laws.RoundTrip.cvrst a b
  | .cvwr a b => Laws.RoundTrip.cvwr a b
  | .unk3x70 cmd a b => Laws.RoundTrip.unk3x70 cmd a b
  | .unk3x74 cmd a b => Laws.RoundTrip.unk3x74 cmd a b
  | .unk3x76 a b => Laws.RoundTrip.unk3x76 a b
  | .unk3x78 cmd a b => Laws.RoundTrip.unk3x78 cmd a b
  | .unk3x7A a b => Laws.RoundTrip.unk3x7A a b
  | .unk3x7D a b => Laws.RoundTrip.unk3x7D a b
  | .unk3x7E a b => Laws.RoundTrip.unk3x7E a b
  | .unk2x01 a => Laws.RoundTrip.unk2x01 a
  | .unk2x02 cmd a => Laws.RoundTrip.unk2x02 cmd a
  | .unk2x04 cmd a => Laws.RoundTrip.unk2x04 cmd a
  | .unk2x08 cmd a => Laws.RoundTrip.unk2x08 cmd a
  | .unk2x10 cmd a => Laws.RoundTrip.unk2x10 cmd a
  | .unk2x20 a => Laws.RoundTrip.unk2x20 a
  | .unk2x22 a => Laws.RoundTrip.unk2x22 a
  | .unk2x27 a => Laws.RoundTrip.unk2x27 a
  | .unk2x32 cmd a => Laws.RoundTrip.unk2x32 cmd a
  | .unk2x34 cmd a => Laws.RoundTrip.unk2x34 cmd a
  | .unk2x38 cmd a => Laws.RoundTrip.unk2x38 cmd a
  | .unk2x44 cmd a => Laws.RoundTrip.unk2x44 cmd a
  | .unk2x48 cmd a => Laws.RoundTrip.unk2x48 cmd a
  | .unk2x53 a => Laws.RoundTrip.unk2x53 a
  | .unk2x54 cmd a => Laws.RoundTrip.unk2x54 cmd a
  | .unk2x58 cmd a => Laws.RoundTrip.unk2x58 cmd a
  | .unk2x5C cmd a => Laws.RoundTrip.unk2x5C cmd a
  | .unk2x69 a => Laws.RoundTrip.unk2x69 a
  | .unk2x6A cmd a => Laws.RoundTrip.unk2x6A cmd a
  | .unk2x80 cmd a => Laws.RoundTrip.unk2x80 cmd a

/-- A row that fixes the high nibble 7 holds 3-byte commands only (R56). -/
theorem isThreeByte_of_inRow {pattern mask cmd : Byte} (hpattern : pattern &&& 0xF0 = 0x70)
    (hmask : mask &&& 0xF0 = 0xF0) (h : inRow pattern mask cmd = true) : isThreeByte cmd = true := by
  have hrow : cmd &&& mask = pattern := beq_iff_eq.mp h
  refine beq_iff_eq.mpr ?_
  calc
    cmd &&& 0xF0 = cmd &&& (mask &&& 0xF0) := by rw [hmask]
    _ = pattern &&& 0xF0 := by rw [← BitVec.and_assoc, hrow]
    _ = 0x70 := hpattern

/-- A well-formed instruction of two bytes carries `arg2 = 0x00` (R13): the rows with a second argument are those of the
3-byte commands. -/
theorem arg2_of_two {i : Instr} (hwf : WellFormed i = true) (htwo : isThreeByte i.cmd = false) : i.arg2 = 0x00 := by
  have hne : isThreeByte i.cmd ≠ true := ne_true_of_eq_false htwo
  cases i with
  | cvchk | cvbit | cvrst | cvwr | unk3x76 | unk3x7A | unk3x7D | unk3x7E => simp [isThreeByte, Instr.cmd] at hne
  | unk3x70 | unk3x74 | unk3x78 => exact (hne (isThreeByte_of_inRow rfl rfl hwf)).elim
  | _ => rfl

/-! ### The bytes of an instruction -/

theorem decode_three {cmd : Byte} (h : isThreeByte cmd = true) (arg1 arg2 : Byte) (rest : List Byte) :
    decode (cmd :: arg1 :: arg2 :: rest) = .ok (decodeFrame cmd arg1 arg2, rest) :=
  if_pos h

/-- A 2-byte frame is read alike whether a byte follows it or not. -/
theorem decode_two {cmd : Byte} (h : isThreeByte cmd = false) (arg1 : Byte) (rest : List Byte) :
    decode (cmd :: arg1 :: rest) = .ok (decodeFrame cmd arg1 0x00, rest) := by
  have hne : ¬isThreeByte cmd = true := ne_true_of_eq_false h
  cases rest with
  | nil => exact if_neg hne
  | cons b rest => exact if_neg hne

theorem encode_three {i : Instr} (h : isThreeByte i.cmd = true) : encode i = [i.cmd, i.arg1, i.arg2] :=
  if_pos h

theorem encode_two {i : Instr} (h : isThreeByte i.cmd = false) : encode i = [i.cmd, i.arg1] :=
  if_neg (ne_true_of_eq_false h)

/-- Settles O1: the decoder takes the frame of the length its command byte gives, and that frame is the packet of `i`. -/
theorem decodeReadsEncodedInstruction : Obligations.DecodeReadsEncodedInstruction := by
  intro i rest hwf
  have hpacket : decodeFrame i.cmd i.arg1 i.arg2 = i := decodeFrame_of_wellFormed i hwf
  cases hlen : isThreeByte i.cmd with
  | true => calc
      decode (encode i ++ rest) = decode (i.cmd :: i.arg1 :: i.arg2 :: rest) := by rw [encode_three hlen]; rfl
      _ = .ok (decodeFrame i.cmd i.arg1 i.arg2, rest) := decode_three hlen _ _ _
      _ = .ok (i, rest) := by rw [hpacket]
  | false => calc
      decode (encode i ++ rest) = decode (i.cmd :: i.arg1 :: rest) := by rw [encode_two hlen]; rfl
      _ = .ok (decodeFrame i.cmd i.arg1 0x00, rest) := decode_two hlen _ _
      _ = .ok (i, rest) := by rw [← arg2_of_two hwf hlen, hpacket]

end Sys2Proof
end

section
/-! CV storage is called with a log entry and a draw for each call (20_memory.md R44, 43_cv_access.md R110), and with the
value `cv_index` has before the packet (R39): a bit write reads first, and the read leaves `cv_index`. -/

namespace Sys2Proof.Machine

theorem Event.isStorageCall_eq (e : Event) : e.isStorageCall = e.storageIndex.isSome := by
  cases e <;> rfl

theorem Event.storageIndex_of_quiet {e : Event} (h : e.isStorageCall = false) : e.storageIndex = none := by
  rwa [e.isStorageCall_eq, Option.isSome_eq_false_iff, Option.isNone_iff_eq_none] at h

/-- CurrentByte reads and never writes `cv_index` (R111). -/
theorem currentByte_cvIndex (v : Byte) (s : State) : (currentByte v s).2.cvIndex = s.cvIndex := by
  cases h : isIndexCV s.params.indexCvKey v with
  | true => rw [currentByte_index h]
  | false => rw [currentByte_storage h]; rfl

/-- From `s` to `t`, each storage call is in the log once, draws one answer and carries the index `idx`. -/
def CallsLogged (idx : Byte) (s t : State) : Prop :=
  ∃ es, t.evLog = s.evLog ++ es ∧ t.draws = s.draws + es.countP (fun e => e.isStorageCall) ∧
    t.answers = s.answers.drop (es.countP fun e => e.isStorageCall) ∧
    ∀ e ∈ es, ∀ i, e.storageIndex = some i → i = idx

namespace CallsLogged

variable {idx : Byte}

theorem trans {s t u : State} (h₁ : CallsLogged idx s t) (h₂ : CallsLogged idx t u) : CallsLogged idx s u := by
  obtain ⟨es₁, hlog₁, hdraws₁, hanswers₁, hidx₁⟩ := h₁
  obtain ⟨es₂, hlog₂, hdraws₂, hanswers₂, hidx₂⟩ := h₂
  refine ⟨es₁ ++ es₂, ?_, ?_, ?_, fun e he => ?_⟩
  · rw [hlog₂, hlog₁, List.append_assoc]
  · rw [hdraws₂, hdraws₁, List.countP_append, Nat.add_assoc]
  · rw [hanswers₂, hanswers₁, List.drop_drop, List.countP_append]
  · rcases List.mem_append.mp he with he | he
    · exact hidx₁ e he
    · exact hidx₂ e he

/-- An update that appends no storage call and draws no answer. -/
theorem of_quiet {s t : State} {es : List Event} (hes : ∀ e ∈ es, e.isStorageCall = false)
    (hlog : t.evLog = s.evLog ++ es) (hdraws : t.draws = s.draws) (hanswers : t.answers = s.answers) :
    CallsLogged idx s t := by
  have hcount : es.countP (fun e => e.isStorageCall) = 0 :=
    List.countP_eq_zero.mpr fun e he => ne_true_of_eq_false (hes e he)
  refine ⟨es, hlog, ?_, ?_, fun e he i hi => ?_⟩
  · rw [hcount, hdraws, Nat.add_zero]
  · rw [hcount, hanswers, List.drop_zero]
  · rw [Event.storageIndex_of_quiet (hes e he)] at hi
    cases hi

/-- An update that leaves the log and the draws. -/
theorem of_unlogged {s t : State} (hlog : t.evLog = s.evLog) (hdraws : t.draws = s.draws)
    (hanswers : t.answers = s.answers) : CallsLogged idx s t :=
  of_quiet (es := []) (fun _ he => by cases he) (hlog.trans s.evLog.append_nil.symm) hdraws hanswers

theorem refl (s : State) : CallsLogged idx s s := of_unlogged rfl rfl rfl

theorem emitAll {es : List Event} (hes : ∀ e ∈ es, e.isStorageCall = false) (s : State) :
    CallsLogged idx s (s.emitAll es) :=
  of_quiet hes rfl rfl rfl

theorem emit {e : Event} (he : e.isStorageCall = false) (s : State) : CallsLogged idx s (s.emit e) :=
  emitAll (fun _ h => List.mem_singleton.mp h ▸ he) s

theorem ackIf (due : Bool) (s : State) : CallsLogged idx s (s.ackIf due) := by
  cases due with
  | true => exact emit rfl s
  | false => exact refl s

/-- A storage call: the answer is drawn and the call is logged with it (R110). -/
theorem call {e : Event} (he : e.storageIndex = some idx) (s : State) :
    CallsLogged idx s (s.drawAnswer.emit e) := by
  have hcall : e.isStorageCall = true := by rw [e.isStorageCall_eq, he, Option.isSome_some]
  have hcount : [e].countP (fun e => e.isStorageCall) = 1 := by simp [hcall]
  refine ⟨[e], rfl, ?_, ?_, fun e' he' i hi => ?_⟩
  · rw [hcount]; rfl
  · rw [hcount, List.drop_one]; rfl
  · rw [List.mem_singleton.mp he', he] at hi
    exact (Option.some.inj hi).symm

theorem currentByte (v : Byte) (s : State) : CallsLogged s.cvIndex s (Machine.currentByte v s).2 := by
  cases h : isIndexCV s.params.indexCvKey v with
  | true => rw [currentByte_index h]; exact refl s
  | false => rw [currentByte_storage h]; exact call rfl s

theorem storeCV (v val : Byte) (s : State) : CallsLogged s.cvIndex s (Machine.storeCV v val s) := by
  cases h : isIndexCV s.params.indexCvKey v with
  | true => rw [storeCV_index h]; exact of_quiet (es := [.ackPulse]) (by decide) rfl rfl rfl
  | false =>
    rw [storeCV_storage h, ← State.ackIf_eq]
    exact (call rfl s).trans (ackIf _ _)

theorem cvCheck (v a : Byte) (s : State) : CallsLogged s.cvIndex s (Machine.cvCheck v a s) :=
  (currentByte v s).trans (ackIf _ _)

/-- The write of CVBIT carries the index its read carried. -/
theorem cvBitAccess (v a : Byte) (s : State) : CallsLogged s.cvIndex s (Machine.cvBitAccess v a s) := by
  unfold Machine.cvBitAccess
  split
  · dsimp only
    split
    · have hwrite := storeCV v (writeBit (Machine.currentByte v s).1 (cvbPosition a) (cvbBit a))
        (Machine.currentByte v s).2
      rw [currentByte_cvIndex] at hwrite
      exact (currentByte v s).trans hwrite
    · exact (currentByte v s).trans (ackIf _ _)
  · exact refl s

theorem cvFactoryReset (v a : Byte) (s : State) : CallsLogged s.cvIndex s (Machine.cvFactoryReset v a s) := by
  unfold Machine.cvFactoryReset
  split
  · exact (emit rfl s).trans (ackIf _ _)
  · exact refl s

theorem cvAccess {body : State → State} {cmd v : Byte} {s : State} (hbody : CallsLogged idx s (body s)) :
    CallsLogged idx s (Machine.cvAccess cmd v body s) := by
  rcases cvAccess_cases cmd v body s with ⟨-, hrun⟩ | hskip
  · rwa [hrun]
  · rw [hskip]; exact refl s

theorem armPairing (p : PairState) (low : Byte) (s : State) : CallsLogged idx s (s.armPairing p low) :=
  of_unlogged rfl rfl rfl

/-- The stage of BIN: one event or the broadcast, and no storage call. -/
theorem binaryState (c : Prop) [Decidable c] (n : BitVec 7) (on : Bool) (s : State) :
    CallsLogged idx s (if c then s.emit (.binaryState n on) else s.emitAll (broadcastEvents on)) := by
  split
  · exact emit rfl s
  · refine emitAll (fun e he => ?_) s
    obtain ⟨k, -, rfl⟩ := List.mem_map.mp he
    rfl

/-- The stage of a continuation: an event from the cached byte if its pairing is pending, nothing otherwise. -/
theorem continuation (p : PairState) {f : Byte → Event} (hf : ∀ low, (f low).isStorageCall = false) (s : State) :
    CallsLogged idx s (if s.pair = p then (s.emit (f s.pairLow)).clearPairing else s) := by
  split
  · exact (emit (hf s.pairLow) s).trans (of_unlogged rfl rfl rfl)
  · exact refl s

theorem dispatchUnknown (cmd arg1 : Byte) (s : State) : CallsLogged idx s (Machine.dispatchUnknown cmd arg1 s) :=
  (emit rfl s).trans (of_unlogged rfl rfl rfl)

/-- The raw event is no storage call, and the cancellation of a pairing leaves `cv_index` (R82, R83). -/
theorem of_processPacket {p : Packet} {d : State → State} {s t : State} (h : processPacket p d s = .next t)
    (hd : ∀ u, CallsLogged u.cvIndex u (d u)) : CallsLogged s.cvIndex s t := by
  have hraw : (rawEvent p.cmd p.arg1 p.arg2).isStorageCall = false := by
    unfold rawEvent
    split <;> rfl
  rw [processPacket_eq] at h
  cases h
  exact (emit hraw s).trans <| (of_unlogged rfl rfl rfl).trans (hd _)

end CallsLogged

/-- Every instruction is Process around a dispatch stage that logs its storage calls, if it makes any. -/
theorem exec_callsLogged_stage (i : Instr) :
    ∃ d, (∀ s, exec i s = processPacket ⟨i.cmd, i.arg1, i.arg2⟩ d s) ∧ ∀ u, CallsLogged u.cvIndex u (d u) := by
  cases i with
  | nop | trig | mcur | aspd24 | aspd50 | rspd25 | rspd51 | mload | agrp | adir | aux | dspd | fgrp60 | fgrp68 | mctl =>
    dsimp only [exec]
    exact ⟨_, fun _ => rfl, fun u => .emit rfl u⟩
  | bin => exact ⟨_, fun _ => rfl, fun u => .binaryState _ _ _ u⟩
  | madl low | binl low => exact ⟨_, fun _ => rfl, fun u => .armPairing _ low u⟩
  | madh a =>
    have hquiet : ∀ low, (Event.masterAddress (masterAddress a low)).isStorageCall = false := fun _ => rfl
    exact ⟨_, fun _ => rfl, fun u => .continuation _ hquiet u⟩
  | binh a =>
    have hquiet : ∀ low, (Event.binaryStateLong (longNumber a low) (topBit low)).isStorageCall = false := fun _ => rfl
    exact ⟨_, fun _ => rfl, fun u => .continuation _ hquiet u⟩
  | cvchk v a => exact ⟨_, fun _ => rfl, fun u => .cvAccess (.cvCheck v a u)⟩
  | cvbit v a => exact ⟨_, fun _ => rfl, fun u => .cvAccess (.cvBitAccess v a u)⟩
  | cvrst v a => exact ⟨_, fun _ => rfl, fun u => .cvAccess (.cvFactoryReset v a u)⟩
  | cvwr v a => exact ⟨_, fun _ => rfl, fun u => .cvAccess (.storeCV v a u)⟩
  | _ => exact ⟨_, fun _ => rfl, fun u => .dispatchUnknown _ _ u⟩

/-- Settles O46: what stands before the dispatch stage is no storage call and leaves `cv_index`. -/
theorem storageCallsAreLoggedOnce : Obligations.StorageCallsAreLoggedOnce := by
  intro i s t hexec
  obtain ⟨d, hprocess, hstage⟩ := exec_callsLogged_stage i
  exact CallsLogged.of_processPacket ((hprocess s).symm.trans hexec) hstage

end Sys2Proof.Machine
end

section
/-! A byte and a resync that are ready together (60_exceptions.md R124): each order as two moves. -/

namespace Sys2Proof.Machine

/-- In ExpectCommand a byte is the command byte of the next frame (R63). -/
theorem byteArrived_of_expectCommand {s : State} (h : s.faState = .expectCommand) (b : Byte) :
    byteArrived b s = s.setAssembler .expectArg1 b s.faArg1 := by
  simp [byteArrived, h]

theorem step_byte_of_expectCommand {s : State} (hinit : s.initDone = true) (hcommand : s.faState = .expectCommand)
    (b : Byte) (rest : List Input) :
    step { s with inputs := .byteArrived b.toNat :: rest } =
      .next { s with inputs := rest, faState := .expectArg1, faCmd := b } := by
  have hb : BitVec.ofNat 8 b.toNat = b := BitVec.eq_of_toNat_eq (by simp)
  have hstep := step_of_move (s := { s with inputs := .byteArrived b.toNat :: rest })
    (.byteArrived rfl (Nat.le_of_lt_succ b.isLt) hinit)
  rwa [hb, byteArrived_of_expectCommand (by exact hcommand)] at hstep

theorem step_resync {s : State} (hinit : s.initDone = true) (rest : List Input) :
    step { s with inputs := .resync :: rest } = .next { s with inputs := rest, faState := .expectCommand } :=
  step_of_move (.resync rfl hinit)

/-- Settles O38: the resync drops the frame the byte opened, and before the byte it finds none to drop. -/
theorem byteAndResyncInEitherOrder : Obligations.ByteAndResyncInEitherOrder := by
  intro b s hinit hcommand
  constructor
  case left => calc
    runSteps 2 { s with inputs := [.byteArrived b.toNat, .resync] }
    _ = runSteps 1 { s with inputs := [.resync], faState := .expectArg1, faCmd := b } :=
      runSteps_of_step (step_byte_of_expectCommand hinit hcommand b _)
    _ = .next { s with inputs := [], faState := .expectCommand, faCmd := b } :=
      runSteps_of_step (step_resync (s := { s with faState := .expectArg1, faCmd := b }) hinit [])
  case right => calc
    runSteps 2 { s with inputs := [.resync, .byteArrived b.toNat] }
    _ = runSteps 1 { s with inputs := [.byteArrived b.toNat], faState := .expectCommand } :=
      runSteps_of_step (step_resync hinit _)
    _ = .next { s with inputs := [], faState := .expectArg1, faCmd := b } :=
      runSteps_of_step (step_byte_of_expectCommand (s := { s with faState := .expectCommand }) hinit rfl b [])

end Sys2Proof.Machine
end

section
/-! The command map as a function (30_encoding.md R56, R59, R60): every command byte selects one row, the row holds the bytes of
the frame it is given, and so the decoder reads every frame into a well-formed instruction with those bytes. -/

namespace Sys2Proof

/-! ### The row of a command byte -/

/-- In a list of rows without overlap, the rows that select a command byte are the one found, if any. -/
theorem filter_selecting_rows {rows : List OpRow} (cmd : Byte)
    (hd : rows.Pairwise fun r q => (r.pattern ^^^ q.pattern) &&& (r.mask &&& q.mask) ≠ 0) :
    (rows.filter fun r => r.selects cmd) = (rows.find? fun r => r.selects cmd).toList := by
  induction rows with
  | nil => rfl
  | cons q rows ih =>
    obtain ⟨hq, hrows⟩ := List.pairwise_cons.mp hd
    cases hs : q.selects cmd with
    | false => simp [hs, ih hrows]
    | true =>
      have hrest : (rows.filter fun r => r.selects cmd) = [] :=
        List.filter_eq_nil_iff.mpr fun r hr hrs => hq r hr (OpRow.agree_of_selects hs hrs)
      simp [hs, hrest]

/-- The row found for a command byte is the one of the mnemonic that R59 gives it. -/
theorem found_row_mnemonic (cmd : Byte) :
    (opcodeTable.find? fun r => r.selects cmd).map OpRow.mnemonic = some (Machine.commandMnemonic cmd) := by
  revert cmd; decide +kernel

/-- Settles O3: a row is found for every command byte, and as no two rows overlap it is the only one. -/
theorem commandByteSelectsOneRow : Obligations.CommandByteSelectsOneRow := by
  intro cmd
  obtain ⟨r, hfound, hmnemonic⟩ := Option.map_eq_some_iff.mp (found_row_mnemonic cmd)
  rw [filter_selecting_rows cmd opcodeTable_disjoint, hfound, ← hmnemonic]
  rfl

/-- The decoder builds every instruction with a row of the command map that selects its command byte: the arm
"anything else" is never taken (R59, R60). -/
theorem exists_row_of_decodeFrame (cmd : Byte) :
    ∃ r ∈ opcodeTable, r.selects cmd = true ∧ ∀ arg1 arg2, decodeFrame cmd arg1 arg2 = r.build cmd arg1 arg2 := by
  obtain ⟨r, hfound, -⟩ := Option.map_eq_some_iff.mp (found_row_mnemonic cmd)
  have hs : r.selects cmd = true := (List.find?_eq_some_iff_append.mp hfound).1
  exact ⟨r, List.mem_of_find?_eq_some hfound, hs, fun _ _ => by rw [decodeFrame, hfound]⟩

/-- A row with the full mask selects its pattern only. -/
theorem OpRow.eq_pattern_of_selects {r : OpRow} {cmd : Byte} (hs : r.selects cmd = true) (hfull : r.mask = 0xFF) :
    cmd = r.pattern := by
  have hrow : cmd &&& r.mask = r.pattern := beq_iff_eq.mp hs
  rw [← hrow, hfull]
  exact BitVec.and_allOnes.symm

/-- All the command bytes of a row have the length of its pattern (R56). -/
theorem OpRow.isThreeByte_of_selects {r : OpRow} {cmd : Byte} (hr : r ∈ opcodeTable) (hs : r.selects cmd = true) :
    isThreeByte cmd = isThreeByte r.pattern := by
  have hmask : ∀ r ∈ opcodeTable, isThreeByte r.pattern = true → r.mask &&& 0xF0 = 0xF0 := by decide
  have hpattern : ∀ r ∈ opcodeTable, (r.pattern ^^^ 0x70) &&& (r.mask &&& 0xF0) = 0 → isThreeByte r.pattern = true := by
    decide
  refine Bool.eq_iff_iff.mpr ⟨fun hcmd => ?_, fun hrow => ?_⟩
  · exact hpattern r hr (OpRow.agree_of_selects (q := { r with pattern := 0x70, mask := 0xF0 }) hs hcmd)
  · exact isThreeByte_of_inRow (beq_iff_eq.mp hrow) (hmask r hr hrow) hs

/-! ### What the rows build -/

section
variable (cmd arg1 arg2 : Byte)

theorem row_build_cmd : ∀ r ∈ opcodeTable, (r.build cmd arg1 arg2).cmd = if r.mask = 0xFF then r.pattern else cmd :=
  List.map_inj_left.mp rfl

theorem row_build_arg1 : ∀ r ∈ opcodeTable, (r.build cmd arg1 arg2).arg1 = arg1 :=
  List.map_inj_left.mp rfl

theorem row_build_arg2 :
    ∀ r ∈ opcodeTable, (r.build cmd arg1 arg2).arg2 = if isThreeByte r.pattern then arg2 else 0x00 :=
  List.map_inj_left.mp rfl

/-- A row of 2-byte commands drops `arg2`. -/
theorem row_build_drops_arg2 :
    ∀ r ∈ opcodeTable, r.build cmd arg1 (if isThreeByte r.pattern then arg2 else 0x00) = r.build cmd arg1 arg2 :=
  List.map_inj_left.mp rfl

/-- A row that leaves command bits free builds a well-formed instruction of the command bytes it selects. -/
theorem row_build_wellFormed :
    ∀ r ∈ opcodeTable, WellFormed (r.build cmd arg1 arg2) = if r.mask = 0xFF then true else r.selects cmd :=
  List.map_inj_left.mp rfl

end

/-! ### What the decoder makes of a frame -/

/-- No frame decodes to an ill-formed instruction. -/
theorem decodeFrame_wellFormed (cmd arg1 arg2 : Byte) : WellFormed (decodeFrame cmd arg1 arg2) = true := by
  obtain ⟨r, hr, hs, hbuild⟩ := exists_row_of_decodeFrame cmd
  rw [hbuild, row_build_wellFormed _ _ _ r hr, hs, ite_self]

@[simp] theorem decodeFrame_cmd (cmd arg1 arg2 : Byte) : (decodeFrame cmd arg1 arg2).cmd = cmd := by
  obtain ⟨r, hr, hs, hbuild⟩ := exists_row_of_decodeFrame cmd
  rw [hbuild, row_build_cmd _ _ _ r hr]
  split
  · exact (OpRow.eq_pattern_of_selects hs ‹_›).symm
  · rfl

@[simp] theorem decodeFrame_arg1 (cmd arg1 arg2 : Byte) : (decodeFrame cmd arg1 arg2).arg1 = arg1 := by
  obtain ⟨r, hr, -, hbuild⟩ := exists_row_of_decodeFrame cmd
  rw [hbuild, row_build_arg1 _ _ _ r hr]

theorem decodeFrame_arg2 (cmd arg1 arg2 : Byte) :
    (decodeFrame cmd arg1 arg2).arg2 = if isThreeByte cmd then arg2 else 0x00 := by
  obtain ⟨r, hr, hs, hbuild⟩ := exists_row_of_decodeFrame cmd
  rw [hbuild, row_build_arg2 _ _ _ r hr, OpRow.isThreeByte_of_selects hr hs]

/-- The instruction of a 2-byte command does not depend on `arg2` (R55). -/
theorem decodeFrame_of_two {cmd : Byte} (h : isThreeByte cmd = false) (arg1 arg2 : Byte) :
    decodeFrame cmd arg1 0x00 = decodeFrame cmd arg1 arg2 := by
  obtain ⟨r, hr, hs, hbuild⟩ := exists_row_of_decodeFrame cmd
  have hdrop := row_build_drops_arg2 cmd arg1 arg2 r hr
  rw [← OpRow.isThreeByte_of_selects hr hs, h] at hdrop
  rw [hbuild, hbuild]
  exact hdrop

/-- The decoder takes as many bytes as the command byte says, and reads their frame (R56). -/
theorem decode_cons_cons_cons (cmd arg1 arg2 : Byte) (rest : List Byte) :
    decode (cmd :: arg1 :: arg2 :: rest) =
      .ok (decodeFrame cmd arg1 arg2, (cmd :: arg1 :: arg2 :: rest).drop (frameLength cmd)) := by
  cases h : isThreeByte cmd with
  | true => rw [decode_three h, frameLength_of_three h]; rfl
  | false => rw [decode_two h, frameLength_of_two h, decodeFrame_of_two h arg1 arg2]; rfl

/-- Settles O5: the high nibble is what `isThreeByte` tests, and the decoder drops a frame of that length. -/
theorem lengthFromHighNibble : Obligations.LengthFromHighNibble := by
  intro cmd arg1 arg2 rest
  refine ⟨?_, _, decode_cons_cons_cons cmd arg1 arg2 rest⟩
  simp only [frameLength, Machine.isThreeByte_eq, decide_eq_true_eq]

/-! ### The bytes of what was read -/

/-- Whatever is read is the frame at the front of the bytes, of the length its command byte gives (R40, R56). -/
theorem frame_of_decode {bs rest : List Byte} {i : Instr} (h : decode bs = .ok (i, rest)) :
    ∃ cmd arg1 arg2, i = decodeFrame cmd arg1 arg2 ∧
      bs = (if isThreeByte cmd then [cmd, arg1, arg2] else [cmd, arg1]) ++ rest := by
  match bs with
  | [] | [_] => cases h
  | cmd :: arg1 :: bs =>
    cases hlen : isThreeByte cmd with
    | false =>
      cases (decode_two hlen arg1 bs).symm.trans h
      exact ⟨cmd, arg1, 0x00, rfl, by simp [hlen]⟩
    | true =>
      match bs with
      | [] => simp [decode, hlen] at h
      | arg2 :: bs =>
        cases (decode_three hlen arg1 arg2 bs).symm.trans h
        exact ⟨cmd, arg1, arg2, rfl, by simp [hlen]⟩

theorem encode_decodeFrame (cmd arg1 arg2 : Byte) :
    encode (decodeFrame cmd arg1 arg2) = if isThreeByte cmd then [cmd, arg1, arg2] else [cmd, arg1] := by
  cases hlen : isThreeByte cmd <;> simp [encode, decodeFrame_arg2, hlen]

/-- Settles O2: what is read is a frame, and the instruction of a frame is well formed and holds its bytes. -/
theorem encodeWritesDecodedInstruction : Obligations.EncodeWritesDecodedInstruction := by
  intro bs i rest h
  obtain ⟨cmd, arg1, arg2, rfl, rfl⟩ := frame_of_decode h
  exact ⟨decodeFrame_wellFormed cmd arg1 arg2, by rw [encode_decodeFrame]⟩

/-! ### Table words -/

/-- A table word with the bytes of a well-formed instruction decodes to it. -/
theorem decodeTableWord_of_bytes {nbits w : Nat} {i : Instr} (hbytes : tableBytes nbits w = [i.cmd, i.arg1, i.arg2])
    (hwf : WellFormed i = true) : decodeTableWord nbits w = some i := by
  have hpacket : decodeFrame i.cmd i.arg1 i.arg2 = i := decodeFrame_of_wellFormed i hwf
  rw [decodeTableWord, hbytes, decode_cons_cons_cons, hpacket]

/-- Settles O4: each word has the bytes of its instruction. -/
theorem sampleWordsDecode : Obligations.SampleWordsDecode := by
  refine ⟨?_, ?_, ?_, ?_, ?_, ?_, ?_, ?_, ?_⟩ <;> exact decodeTableWord_of_bytes rfl rfl

end Sys2Proof
end

section
/-! The unknown opcodes (30_encoding.md R60, 42_command_interpreter.md R103): which instructions they decode to, and what each
of those does. -/

namespace Sys2Proof.Machine

/-- The 27 unknown instructions are what the rows UNK3 and UNK2 build. -/
theorem unknownInstrs_eq_map (cmd arg1 arg2 : Byte) :
    unknownInstrs cmd arg1 arg2 = (unknown3Rows ++ unknown2Rows).map fun r => r.build cmd arg1 arg2 := rfl

theorem isUnknownInstr_of_mem {cmd arg1 arg2 : Byte} {i : Instr} (h : i ∈ unknownInstrs cmd arg1 arg2) :
    isUnknownInstr i = true := by
  rw [unknownInstrs_eq_map] at h
  obtain ⟨r, hr, rfl⟩ := List.mem_map.mp h
  exact unknown_rows_build_unknown cmd arg1 arg2 r hr

/-- An unknown opcode decodes to an instruction of the rows UNK3 and UNK2: the other rows build no unknown instruction. -/
theorem decodeFrame_mem_unknownInstrs {cmd : Byte} (h : isUnknownOpcode cmd = true) (arg1 arg2 : Byte) :
    decodeFrame cmd arg1 arg2 ∈ unknownInstrs cmd arg1 arg2 := by
  have hunknown : isUnknownInstr (decodeFrame cmd arg1 arg2) = true := (isUnknownInstr_decodeFrame ..).trans h
  obtain ⟨r, hr, -, hbuild⟩ := exists_row_of_decodeFrame cmd
  rw [hbuild] at hunknown ⊢
  have hsplit : r ∈ (notifyRows ++ cvRows) ++ (unknown3Rows ++ unknown2Rows) := by
    simpa only [opcodeTable, List.append_assoc] using hr
  rcases List.mem_append.mp hsplit with hnamed | hrow
  · exact absurd hunknown (ne_true_of_eq_false (named_rows_build_known cmd arg1 arg2 r hnamed))
  · rw [unknownInstrs_eq_map]
    exact List.mem_map_of_mem (f := fun r => r.build cmd arg1 arg2) hrow

/-- A well-formed instruction is an unknown one exactly when its opcode is (R60). -/
theorem isUnknownInstr_of_wellFormed {i : Instr} (hwf : WellFormed i = true) :
    isUnknownInstr i = isUnknownOpcode i.cmd := by
  rw [← isUnknownInstr_decodeFrame i.cmd i.arg1 i.arg2, decodeFrame_of_wellFormed i hwf]

/-- An unknown opcode is no continuation, so it cancels every pairing (R83). -/
theorem pairAfterCancel_of_unknown {cmd : Byte} (h : isUnknownOpcode cmd = true) (p : PairState) :
    pairAfterCancel p cmd = .idle :=
  pairAfterCancel_of_other (by rintro rfl; cases h) (by rintro rfl; cases h) p

/-- Every unknown instruction is Process of its packet around the one stage they share (R103). -/
theorem exec_unknown (cmd arg1 arg2 : Byte) (s : State) : ∀ i ∈ unknownInstrs cmd arg1 arg2,
    exec i s = processPacket ⟨i.cmd, i.arg1, i.arg2⟩ (dispatchUnknown i.cmd i.arg1) s :=
  List.map_inj_left.mp rfl

/-- Settles O19: the row of an unknown opcode, the stage its instructions share, and the effect of every other one. -/
theorem unknownOpcodePacket : Obligations.UnknownOpcodePacket := by
  refine ⟨fun cmd a b rest h => ?decodes, fun cmd a b i hi hwf => ?acts, fun i s t hwf h hexec => ?others⟩
  case decodes =>
    exact ⟨_, decodeFrame_mem_unknownInstrs h a b, decode_cons_cons_cons cmd a b rest, decodeFrame_wellFormed cmd a b,
      decodeFrame_cmd cmd a b, decodeFrame_arg1 cmd a b⟩
  case acts =>
    have hopcode : isUnknownOpcode i.cmd = true := (isUnknownInstr_of_wellFormed hwf).symm.trans (isUnknownInstr_of_mem hi)
    refine ⟨hopcode, fun s => ?_⟩
    rw [exec_unknown cmd a b s i hi, processPacket_eq, pairAfterCancel_of_unknown hopcode]
    simp [dispatchUnknown, State.emit, State.markUnknown]
  case others =>
    have heffect := effect_of_exec hexec
    rw [(isUnknownInstr_of_wellFormed hwf).trans h, State.noteUnknown_false] at heffect
    exact heffect.drainUnknown

end Sys2Proof.Machine
end

section
/-! The Frame Assembler (40_frame_assembler.md): a byte in each state (R63), a resync (R66), and a byte stream as its frames
(R68), which Enqueue drops once the queue is full (R79, R80). -/

namespace Sys2Proof.Machine

/-! ### A byte in each state -/

theorem step_byteArrived {s : State} {b : Byte} {rest : List Input} (hinit : s.initDone = true)
    (hi : s.inputs = .byteArrived b.toNat :: rest) : step s = .next (byteArrived b s.popInput) := by
  have hstep := step_of_move (.byteArrived hi (Nat.le_of_lt_succ b.isLt) hinit)
  rwa [BitVec.ofNat_toNat, BitVec.setWidth_eq] at hstep

theorem byteArrived_of_expectArg1_three {s : State} (h : s.faState = .expectArg1) (hthree : isThreeByte s.faCmd = true)
    (b : Byte) : byteArrived b s = s.setAssembler .expectArg2 s.faCmd b := by
  simp [byteArrived, h, hthree]

theorem byteArrived_of_expectArg1_two {s : State} (h : s.faState = .expectArg1) (htwo : isThreeByte s.faCmd = false)
    (b : Byte) :
    byteArrived b s = (enqueue ⟨s.faCmd, b, 0x00⟩ s).2.setAssembler .expectCommand s.faCmd s.faArg1 := by
  simp [byteArrived, h, htwo]

theorem byteArrived_of_expectArg2 {s : State} (h : s.faState = .expectArg2) (b : Byte) :
    byteArrived b s = (enqueue ⟨s.faCmd, s.faArg1, b⟩ s).2.setAssembler .expectCommand s.faCmd s.faArg1 := by
  simp [byteArrived, h]

theorem byteArrived_of_undefined {s : State} (h : s.faState = .undefined) (b : Byte) :
    byteArrived b s = s.setAssembler .expectCommand s.faCmd s.faArg1 := by
  simp [byteArrived, h]

/-- Enqueue neither reads nor writes the moves to come and the assembler, whether the queue has room or not. -/
theorem enqueue_popInput_setAssembler (p : Packet) (s : State) :
    (enqueue p s.popInput).2.setAssembler .expectCommand s.faCmd s.faArg1 =
      { (enqueue p s).2 with inputs := s.inputs.tail, faState := .expectCommand } := by
  cases h : (s.slotAt s.qWr).occ with
  | true => rw [enqueue_full p h, enqueue_full (s := s.popInput) p h]; rfl
  | false => rw [enqueue_free p h, enqueue_free (s := s.popInput) p h]; rfl

/-- Settles O31: the move is ByteArrived, one case for each state of the assembler. -/
theorem byteArrivedStep : Obligations.ByteArrivedStep := by
  intro b rest s hinit hi
  have hrest : rest = s.inputs.tail := by rw [hi]; rfl
  rw [step_byteArrived hinit hi, hrest]
  refine congrArg Host.Outcome.next ?_
  cases hst : s.faState with
  | expectCommand => exact byteArrived_of_expectCommand (s := s.popInput) hst b
  | expectArg1 =>
    dsimp only
    split
    case isTrue hnibble =>
      exact byteArrived_of_expectArg1_three (s := s.popInput) hst (by simpa [isThreeByte_eq] using hnibble) b
    case isFalse hnibble =>
      rw [← enqueue_popInput_setAssembler]
      exact byteArrived_of_expectArg1_two (s := s.popInput) hst (by simpa [isThreeByte_eq] using hnibble) b
  | expectArg2 =>
    dsimp only
    rw [← enqueue_popInput_setAssembler]
    exact byteArrived_of_expectArg2 (s := s.popInput) hst b
  | undefined => exact byteArrived_of_undefined (s := s.popInput) hst b

/-! ### A resync -/

/-- Settles O33: the resync of the state, and that of the state with the assembler in EC already. -/
theorem resyncStep_writes_faState_only : Obligations.ResyncStep := by
  intro rest s hinit hi
  have hrest : rest = s.inputs.tail := by rw [hi]; rfl
  exact ⟨hrest ▸ step_of_move (.resync hi hinit), step_resync (s := { s with faState := .expectCommand }) hinit rest⟩

/-! ### The frames of a byte stream -/

/-- A 2-byte frame at the head of a stream is complete whatever follows it. -/
theorem framesOf_two {cmd : Byte} (h : isThreeByte cmd = false) (arg1 : Byte) (bs : List Byte) :
    framesOf (cmd :: arg1 :: bs) = ⟨cmd, arg1, 0x00⟩ :: framesOf bs := by
  cases bs <;> simp [framesOf, h]

theorem framesOf_three {cmd : Byte} (h : isThreeByte cmd = true) (arg1 arg2 : Byte) (bs : List Byte) :
    framesOf (cmd :: arg1 :: arg2 :: bs) = ⟨cmd, arg1, arg2⟩ :: framesOf bs := by
  simp [framesOf, h]

theorem assemblerAfter_two {cmd : Byte} (h : isThreeByte cmd = false) (arg1 : Byte) (bs : List Byte) :
    assemblerAfter (cmd :: arg1 :: bs) = assemblerAfter bs := by
  cases bs <;> simp [assemblerAfter, h]

theorem assemblerAfter_three {cmd : Byte} (h : isThreeByte cmd = true) (arg1 arg2 : Byte) (bs : List Byte) :
    assemblerAfter (cmd :: arg1 :: arg2 :: bs) = assemblerAfter bs := by
  simp [assemblerAfter, h]

/-! ### The incomplete frame in the assembler -/

/-- The bytes of the incomplete frame that wait in the assembler (R63): only a 3-byte command waits for a second argument. -/
inductive PendingBytes (s : State) : List Byte → Prop
  | none (hst : s.faState = .expectCommand) : PendingBytes s []
  | command (hst : s.faState = .expectArg1) : PendingBytes s [s.faCmd]
  | arg1 (hst : s.faState = .expectArg2) (hthree : isThreeByte s.faCmd = true) : PendingBytes s [s.faCmd, s.faArg1]

theorem PendingBytes.popInput {s : State} {pending : List Byte} (h : PendingBytes s pending) :
    PendingBytes s.popInput pending := by
  cases h with
  | none hst => exact .none hst
  | command hst => exact .command hst
  | arg1 hst hthree => exact .arg1 (s := s.popInput) hst hthree

theorem PendingBytes.framesOf_eq_nil {s : State} {pending : List Byte} (h : PendingBytes s pending) :
    framesOf pending = [] := by
  cases h with
  | none | command => rfl
  | arg1 _ hthree => simp [framesOf, hthree]

theorem PendingBytes.assemblerAfter_eq {s : State} {pending : List Byte} (h : PendingBytes s pending) :
    assemblerAfter pending = s.faState := by
  cases h with
  | none hst | command hst => exact hst.symm
  | arg1 hst hthree => simp [assemblerAfter, hthree, hst]

/-- A byte joins the incomplete frame or completes it: the frames it completes are the ones that leave the stream, and go
to the queue. -/
theorem PendingBytes.byteArrived {s : State} {pending : List Byte} (h : PendingBytes s pending) (hq : s.QueueWf)
    (b : Byte) :
    ∃ pending' complete, PendingBytes (Machine.byteArrived b s) pending' ∧
      (Machine.byteArrived b s).queued = (s.queued ++ complete).take s.params.qcap ∧
      ∀ bs, framesOf (pending ++ b :: bs) = complete ++ framesOf (pending' ++ bs) ∧
        assemblerAfter (pending ++ b :: bs) = assemblerAfter (pending' ++ bs) := by
  have hqueue : (s.queued ++ []).take s.params.qcap = s.queued := by
    rw [List.append_nil, List.take_of_length_le (State.queued_length_le hq)]
  cases h with
  | none hst =>
    rw [byteArrived_of_expectCommand hst]
    exact ⟨[b], [], .command rfl, hqueue.symm, fun _ => ⟨rfl, rfl⟩⟩
  | command hst =>
    cases hlength : isThreeByte s.faCmd with
    | true =>
      rw [byteArrived_of_expectArg1_three hst hlength]
      exact ⟨[s.faCmd, b], [], .arg1 rfl hlength, hqueue.symm, fun _ => ⟨rfl, rfl⟩⟩
    | false =>
      rw [byteArrived_of_expectArg1_two hst hlength]
      exact ⟨[], [⟨s.faCmd, b, 0x00⟩], .none rfl, (enqueue_queued hq _).2, fun bs =>
        ⟨framesOf_two hlength b bs, assemblerAfter_two hlength b bs⟩⟩
  | arg1 hst hthree =>
    rw [byteArrived_of_expectArg2 hst]
    exact ⟨[], [⟨s.faCmd, s.faArg1, b⟩], .none rfl, (enqueue_queued hq _).2, fun bs =>
      ⟨framesOf_three hthree s.faArg1 b bs, assemblerAfter_three hthree s.faArg1 b bs⟩⟩

/-! ### A byte stream -/

/-- A list that is cut off stays cut off: what is appended later is dropped behind it. -/
theorem take_take_append {α : Type} (n : Nat) (xs ys : List α) :
    (xs.take n ++ ys).take n = (xs ++ ys).take n := by
  rw [List.take_append, List.take_append, List.take_take, Nat.min_self, List.length_take]
  congr 2
  omega

/-- A byte stream taken up in the middle of a frame: the bytes that wait in the assembler stand before it. -/
theorem byteStream_run {rest : List Input} (bs : List Byte) {s : State} {pending : List Byte} (hinv : s.Inv)
    (hpending : PendingBytes s pending) (hi : s.inputs = byteMoves bs ++ rest) :
    ∃ t, runSteps bs.length s = .next t ∧ t.queued = (s.queued ++ framesOf (pending ++ bs)).take s.params.qcap ∧
      t.faState = assemblerAfter (pending ++ bs) ∧ t.inputs = rest ∧ t.evLog = s.evLog := by
  induction bs generalizing s pending with
  | nil =>
    refine ⟨s, rfl, ?_, ?_, hi, rfl⟩
    · rw [List.append_nil, hpending.framesOf_eq_nil, List.append_nil,
        List.take_of_length_le (State.queued_length_le hinv.i4)]
    · rw [List.append_nil, hpending.assemblerAfter_eq]
  | cons b bs ih =>
    have hstep : step s = .next (byteArrived b s.popInput) := step_byteArrived hinv.afterInit hi
    have hinputs : (byteArrived b s.popInput).inputs = byteMoves bs ++ rest := by
      rw [byteArrived_frame]
      exact (congrArg List.tail hi :)
    have hparams : (byteArrived b s.popInput).params = s.params := by rw [byteArrived_frame]; rfl
    have hlog : (byteArrived b s.popInput).evLog = s.evLog := by rw [byteArrived_frame]; rfl
    obtain ⟨pending', complete, hpending', hqueue, hstream⟩ := hpending.popInput.byteArrived hinv.popInput.i4 b
    obtain ⟨hframes, hafter⟩ := hstream bs
    obtain ⟨t, hrun, hqueued, hst, hrest, hevents⟩ := ih (inv_of_step hinv hstep) hpending' hinputs
    refine ⟨t, (runSteps_of_step hstep).trans hrun, ?_, hst.trans hafter.symm, hrest, hevents.trans hlog⟩
    calc t.queued
      _ = ((s.queued ++ complete).take s.params.qcap ++ framesOf (pending' ++ bs)).take s.params.qcap := by
        rw [hqueued, hqueue, hparams]; rfl
      _ = (s.queued ++ framesOf (pending ++ b :: bs)).take s.params.qcap := by
        rw [take_take_append, hframes, List.append_assoc]

/-- Settles O54: the stream starts with no frame in progress. -/
theorem byteStreamBecomesItsFrames : Obligations.ByteStreamBecomesItsFrames := by
  intro bs rest s hinv hst hi
  exact byteStream_run bs hinv (.none hst) hi

end Sys2Proof.Machine
end

section
/-! The packet queue as a Drain sees it (41_packet_queue.md): Enqueue (R71), the two ends of a Drain (R75, R76), and the step
of the consumer in between, which runs the instruction of the head slot and releases the slot (R73, R74). -/

namespace Sys2Proof.Machine

/-! ### Enqueue -/

/-- Settles O32: the slot at `q_wr` is occupied or free. -/
theorem enqueueOperation : Obligations.EnqueueOperation := by
  intro p s
  split
  case isTrue hocc => exact enqueue_full p hocc
  case isFalse hfree => exact enqueue_free p (eq_false_of_ne_true hfree)

/-! ### The ends of a Drain -/

/-- Settles O34: the moves DrainStart and DrainEnd. -/
theorem drainStartAndEnd : Obligations.DrainStartAndEnd := by
  refine ⟨fun rest s hinit hdrain hi => ?start, fun s hinit hdrain hp hfree => ?finish⟩
  case start =>
    have hrest : rest = s.inputs.tail := by rw [hi]; rfl
    exact hrest ▸ step_of_move (.drainStart hi hinit hdrain)
  case finish => exact step_of_move (.drainEnd hp hinit hdrain hfree)

/-! ### The head slot -/

/-- The bytes of a slot are one whole frame, that of its packet (R19, R56). -/
theorem decode_slotBytes (sl : Slot) : decode sl.bytes = .ok (decodeFrame sl.cmd sl.arg1 sl.arg2, []) := by
  cases hlen : isThreeByte sl.cmd with
  | true => rw [Slot.bytes, if_pos hlen, decode_three hlen]
  | false => rw [Slot.bytes, if_neg (ne_true_of_eq_false hlen), decode_two hlen, decodeFrame_of_two hlen]

/-- What the head slot decodes to is what the consumer fetches. -/
theorem State.fetch_of_decode {s : State} {i : Instr} (h : decode (s.slotAt s.qRd).bytes = .ok (i, [])) :
    s.fetch = i := by
  cases (decode_slotBytes _).symm.trans h
  rfl

/-- A queue with packets has its first one in the slot at `q_rd`, and the release of that slot leaves the others (R73, R74). -/
theorem State.head_of_queued {s : State} {p : Packet} {ps : List Packet} (hq : s.QueueWf) (h : s.queued = p :: ps) :
    (s.slotAt s.qRd).occ = true ∧ (s.slotAt s.qRd).packet = p ∧ s.releaseSlot.queued = ps := by
  have hocc : (s.slotAt s.qRd).occ = true := by
    rw [← Bool.not_eq_false, ← State.queued_eq_nil_iff hq, h]
    exact List.cons_ne_nil p ps
  have hsplit := (State.releaseSlot_queued hq hocc).2
  rw [h] at hsplit
  obtain ⟨hp, hps⟩ := List.cons.inj hsplit
  exact ⟨hocc, hp.symm, hps.symm⟩

/-! ### The consumer's step -/

/-- With the head slot occupied, PC's step in a Drain is ConsumeOne (R73). -/
theorem step_eq_consumeOne {s : State} (hinit : s.initDone = true) (hdrain : s.drainActive = true)
    (hp : s.ProcessingNext) (hocc : (s.slotAt s.qRd).occ = true) : step s = consumeOne s.popInput := by
  have hocc' : (s.popInput.slotAt s.qRd).occ = true := hocc
  rw [step_of_processingNext hp hdrain]
  simp [processingStep, hinit, hdrain, hocc']

/-- Settles O36: the step is ConsumeOne, and the consumer fetches `i`. -/
theorem stepRunsTheDecodedPacket : Obligations.StepRunsTheDecodedPacket := by
  intro i s hinit hdrain hp hocc hdecode _
  have hfetch : s.popInput.fetch = i := State.fetch_of_decode hdecode
  rw [step_eq_consumeOne hinit hdrain hp hocc, consumeOne, hfetch]
  rfl

/-- The log after a packet: the raw event stands before whatever its dispatch stage appends (R82). -/
theorem log_of_exec {i : Instr} {s t : State} (h : exec i s = .next t) :
    ∃ es, t.evLog = s.evLog ++ rawEvent i.cmd i.arg1 i.arg2 :: es := by
  obtain ⟨d, hexec, hd⟩ := exec_eq_dispatch i
  cases (hexec s).symm.trans h
  obtain ⟨es, hes⟩ := (hd.effect (s.beforeDispatch i)).log
  exact ⟨es, hes.symm.trans (List.append_assoc _ _ _)⟩

/-- A frame and the instruction read from it have the same raw event: the form of 2 bytes does not show `arg2`. -/
theorem rawEvent_decodeFrame (cmd arg1 arg2 : Byte) :
    rawEvent (decodeFrame cmd arg1 arg2).cmd (decodeFrame cmd arg1 arg2).arg1 (decodeFrame cmd arg1 arg2).arg2 =
      rawEvent cmd arg1 arg2 := by
  cases hlen : isThreeByte cmd <;> simp [rawEvent, decodeFrame_arg2, hlen]

/-- Settles O55: processing leaves the queue as it is, so the release takes the head off it, and the raw event is that of the
frame at the head. -/
theorem consumerTakesTheHead : Obligations.ConsumerTakesTheHead := by
  intro p ps s hinv hdrain hp hqueue
  obtain ⟨u, hexec, heffect⟩ := exec_effect s.fetch s.popInput.markSeen
  obtain ⟨hocc, hpacket, hps⟩ :=
    State.head_of_queued (heffect.queueWf hinv.popInput.i4) (heffect.queued.trans hqueue)
  rw [headSlot_of_exec hexec] at hocc hpacket
  obtain ⟨es, hlog⟩ := log_of_exec hexec
  refine ⟨u.releaseSlot, es, step_of_move (.packet hp hinv.afterInit hdrain hocc hexec), hps, heffect.drainSeen,
    heffect.drainActive.trans hdrain, hlog.trans ?_⟩
  rw [State.fetch, rawEvent_decodeFrame, ← hpacket]
  rfl

end Sys2Proof.Machine
end

section
/-! The packets of the Command Interpreter that call no CV storage (42_command_interpreter.md R85 to R101): how the
bytes of each decode, and the whole next state it answers. -/

namespace Sys2Proof.Machine

open Sys2Proof.Config

/-! ### The bytes of a 2-byte packet -/

theorem decode_two_byte_instr (i : Instr) (hwf : WellFormed i = true) (hlen : isThreeByte i.cmd = false)
    (rest : List Byte) : decode (i.cmd :: i.arg1 :: rest) = .ok (i, rest) := by
  have hround : decode (encode i ++ rest) = .ok (i, rest) := decodeReadsEncodedInstruction i rest hwf
  rwa [encode_two hlen] at hround

theorem rawEvent_two {cmd : Byte} (hlen : isThreeByte cmd = false) (arg1 arg2 : Byte) :
    rawEvent cmd arg1 arg2 = .raw2 cmd arg1 :=
  if_neg (ne_true_of_eq_false hlen)

/-! ### The commands that cancel every pairing -/

/-- A 2-byte command that continues no pairing, as a condition on its number. -/
@[reducible] def EndsPairings (cmd : Byte) : Prop := cmd.toNat / 16 ≠ 7 ∧ cmd.toNat ≠ 0x5F ∧ cmd.toNat ≠ 0x6F

theorem EndsPairings.two_bytes {cmd : Byte} (h : EndsPairings cmd) : isThreeByte cmd = false := by
  rw [isThreeByte_eq, decide_eq_false h.1]

theorem EndsPairings.cancels {cmd : Byte} (h : EndsPairings cmd) (p : PairState) : pairAfterCancel p cmd = .idle := by
  obtain ⟨-, hmadh, hbinh⟩ := h
  exact pairAfterCancel_of_other (fun e => hmadh (congrArg BitVec.toNat e)) (fun e => hbinh (congrArg BitVec.toNat e)) p

theorem processPacket_endsPairings {cmd : Byte} (h : EndsPairings cmd) (a : Byte) (d : State → State) (s : State) :
    processPacket ⟨cmd, a, 0x00⟩ d s =
      .next (d { s with pair := .idle, evLog := s.evLog ++ [.raw2 cmd a] }) := by
  rw [processPacket_eq, h.cancels, rawEvent_two h.two_bytes]

/-- The stage of a notification: one event, which may depend on the parameters. -/
theorem processPacket_emit {cmd : Byte} (h : EndsPairings cmd) (a : Byte) (f : Params → Event) (s : State) :
    processPacket ⟨cmd, a, 0x00⟩ (fun t => t.emit (f t.params)) s =
      .next { s with pair := .idle, evLog := s.evLog ++ [.raw2 cmd a, f s.params] } := by
  rw [processPacket_endsPairings h, State.emit, List.append_assoc]
  rfl

/-! ### Notifications -/

/-- Settles O6: NOP is a notification. -/
theorem noOperationPacket : Obligations.NoOperationPacket := by
  intro a rest s
  have hcmd : EndsPairings 0x00 := by decide
  exact ⟨decode_two_byte_instr (.nop a) rfl hcmd.two_bytes rest,
    processPacket_emit hcmd a (fun _ => .noOperation a) s⟩

/-- Settles O7: TRIG is a notification. -/
theorem triggerPulsePacket : Obligations.TriggerPulsePacket := by
  intro a rest s
  have hcmd : EndsPairings 0x21 := by decide
  exact ⟨decode_two_byte_instr (.trig a) rfl hcmd.two_bytes rest,
    processPacket_emit hcmd a (fun _ => .triggerPulse a) s⟩

/-- Settles O17: MCTL is a notification, of its byte as it is. -/
theorem moduleControlPacket : Obligations.ModuleControlPacket := by
  intro a rest s
  have hcmd : EndsPairings 0x6C := by decide
  exact ⟨decode_two_byte_instr (.mctl a) rfl hcmd.two_bytes rest,
    processPacket_emit hcmd a (fun _ => .moduleControl a) s⟩

/-- Settles O8: the signed value is `sext8`. -/
theorem motorCurrentPacket : Obligations.MotorCurrentPacket := by
  intro a rest s
  rw [← sext8_eq]
  have hcmd : EndsPairings 0x23 := by decide
  exact ⟨decode_two_byte_instr (.mcur a) rfl hcmd.two_bytes rest,
    processPacket_emit hcmd a (fun _ => .motorCurrent (sext8 a)) s⟩

/-- Settles O9: the signed value is `sext8`. -/
theorem motorLoadPacket : Obligations.MotorLoadPacket := by
  intro a rest s
  rw [← sext8_eq]
  have hcmd : EndsPairings 0x26 := by decide
  exact ⟨decode_two_byte_instr (.mload a) rfl hcmd.two_bytes rest,
    processPacket_emit hcmd a (fun _ => .motorLoad (sext8 a)) s⟩

/-! ### Notifications of a speed -/

/-- Settles O10: the fields are those of the form DS. -/
theorem actualSpeedPacket : Obligations.ActualSpeedPacket := by
  intro a rest s
  rw [← lowSeven_eq, ← topBit_eq]
  have h24 : EndsPairings 0x24 := by decide
  have h50 : EndsPairings 0x50 := by decide
  exact ⟨decode_two_byte_instr (.aspd24 a) rfl h24.two_bytes rest,
    decode_two_byte_instr (.aspd50 a) rfl h50.two_bytes rest,
    processPacket_emit h24 a (fun _ => .actualSpeed (lowSeven a) (topBit a)) s,
    processPacket_emit h50 a (fun _ => .actualSpeed (lowSeven a) (topBit a)) s⟩

/-- Settles O11: the fields are those of the form DS. -/
theorem requestedSpeedPacket : Obligations.RequestedSpeedPacket := by
  intro a rest s
  rw [← lowSeven_eq, ← topBit_eq]
  have h25 : EndsPairings 0x25 := by decide
  have h51 : EndsPairings 0x51 := by decide
  exact ⟨decode_two_byte_instr (.rspd25 a) rfl h25.two_bytes rest,
    decode_two_byte_instr (.rspd51 a) rfl h51.two_bytes rest,
    processPacket_emit h25 a (fun _ => .requestedSpeed (lowSeven a) (topBit a)) s,
    processPacket_emit h51 a (fun _ => .requestedSpeed (lowSeven a) (topBit a)) s⟩

/-- Settles O12: the fields are those of the form DS. -/
theorem dccSpeedPacket : Obligations.DccSpeedPacket := by
  intro a rest s
  rw [← lowSeven_eq, ← topBit_eq]
  have hcmd : EndsPairings 0x52 := by decide
  exact ⟨decode_two_byte_instr (.dspd a) rfl hcmd.two_bytes rest,
    processPacket_emit hcmd a (fun _ => .dccSpeed (lowSeven a) (topBit a)) s⟩

/-! ### Notifications of a group -/

/-- Settles O13: the command bytes of the range are those of the row. -/
theorem analogGroupPacket : Obligations.AnalogGroupPacket := by
  intro cmd a rest s hlo hhi
  have hrow : inRow 0x28 0xF8 cmd = true := by revert cmd; decide
  have hcmd : EndsPairings cmd := by unfold EndsPairings; omega
  exact ⟨decode_two_byte_instr (.agrp cmd a) hrow hcmd.two_bytes rest,
    processPacket_emit hcmd a (fun params => .analogGroup (analogGroupId params.analogGroupBase cmd) a) s⟩

/-- Settles O14: one row of two command bytes, with consecutive group numbers. -/
theorem analogDirectPacket : Obligations.AnalogDirectPacket := by
  intro a rest s
  have h30 : EndsPairings 0x30 := by decide
  have h31 : EndsPairings 0x31 := by decide
  exact ⟨decode_two_byte_instr (.adir 0x30 a) rfl h30.two_bytes rest,
    decode_two_byte_instr (.adir 0x31 a) rfl h31.two_bytes rest,
    processPacket_emit h30 a (fun _ => .analogDirect 1 a) s, processPacket_emit h31 a (fun _ => .analogDirect 2 a) s⟩

/-- Settles O15: the command bytes of the range are those of the row. -/
theorem auxGroupPacket : Obligations.AuxGroupPacket := by
  intro cmd a rest s hlo hhi
  have hrow : inRow 0x40 0xFC cmd = true := by revert cmd; decide
  have hcmd : EndsPairings cmd := by unfold EndsPairings; omega
  exact ⟨decode_two_byte_instr (.aux cmd a) hrow hcmd.two_bytes rest,
    processPacket_emit hcmd a (fun params => .auxGroup (auxGroupId params.auxGroupBase cmd) a) s⟩

/-- Settles O16: the row of 0x60 to 0x67, and that of 0x68. -/
theorem functionGroupPacket : Obligations.FunctionGroupPacket := by
  intro a rest s
  have h68 : EndsPairings 0x68 := by decide
  refine ⟨fun cmd hlo hhi => ?_, decode_two_byte_instr (.fgrp68 a) rfl h68.two_bytes rest,
    processPacket_emit h68 a (fun _ => .functionGroup 8 a) s⟩
  have hrow : inRow 0x60 0xF8 cmd = true := by revert cmd; decide
  have hcmd : EndsPairings cmd := by unfold EndsPairings; omega
  exact ⟨decode_two_byte_instr (.fgrp60 cmd a) hrow hcmd.two_bytes rest,
    processPacket_emit hcmd a (fun _ => .functionGroup (functionGroupId cmd) a) s⟩

/-! ### Binary states, short form -/

theorem lowSeven_eq_zero_iff (a : Byte) : lowSeven a = 0 ↔ a.toNat % 128 = 0 := by
  rw [lowSeven_eq, ← BitVec.toNat_inj, BitVec.toNat_ofNat, Nat.mod_mod]
  rfl

/-- The broadcast, its numbers written as they run. -/
theorem broadcastEvents_eq (on : Bool) :
    broadcastEvents on = (List.range' 1 127).map fun n => .binaryState (BitVec.ofNat 7 n) on := by
  simp [broadcastEvents, List.range'_eq_map_range, Nat.add_comm]

/-- Settles O18: number 0 is the broadcast. -/
theorem binaryStatePacket : Obligations.BinaryStatePacket := by
  intro a rest s
  have hcmd : EndsPairings 0x6D := by decide
  refine ⟨decode_two_byte_instr (.bin a) rfl hcmd.two_bytes rest, ?_⟩
  rw [exec, execBin, processPacket_endsPairings hcmd, ← lowSeven_eq, ← topBit_eq, ← broadcastEvents_eq]
  by_cases hzero : a.toNat % 128 = 0
  · have hlow : lowSeven a = 0 := (lowSeven_eq_zero_iff a).mpr hzero
    rw [if_neg (not_not_intro hlow), if_pos hzero]
    simp [State.emitAll]
  · have hlow : lowSeven a ≠ 0 := mt (lowSeven_eq_zero_iff a).mp hzero
    rw [if_pos hlow, if_neg hzero]
    simp [State.emit]

/-! ### Values assembled from two packets -/

/-- Two fields put together by a shift and an `or` are the number with the digits `high` and `low` (R41). -/
theorem shiftLeft_or_eq_ofNat {m k n : Nat} (hn : m + k ≤ n) (high : BitVec m) (low : BitVec k) :
    high.setWidth n <<< k ||| low.setWidth n = BitVec.ofNat n (high.toNat * 2 ^ k + low.toNat) := by
  have hhigh : high.toNat % 2 ^ n = high.toNat :=
    Nat.mod_eq_of_lt (high.isLt.trans_le (Nat.pow_le_pow_right two_pos (by omega)))
  have hlow : low.toNat % 2 ^ n = low.toNat :=
    Nat.mod_eq_of_lt (low.isLt.trans_le (Nat.pow_le_pow_right two_pos (by omega)))
  rw [← Nat.shiftLeft_eq, Nat.shiftLeft_add_eq_or_of_lt low.isLt, BitVec.ofNat_or]
  apply BitVec.eq_of_toNat_eq
  simp [hhigh, hlow]

theorem longNumber_eq (high low : Byte) :
    longNumber high low = BitVec.ofNat 15 (high.toNat * 128 + low.toNat % 128) := by
  rw [longNumber, shiftLeft_or_eq_ofNat (by decide), lowSeven_eq, BitVec.toNat_ofNat, Nat.mod_mod]
  rfl

theorem masterAddress_eq (high low : Byte) :
    masterAddress high low = BitVec.ofNat 16 (high.toNat * 256 + low.toNat) :=
  shiftLeft_or_eq_ofNat (by decide) high low

/-! ### The pairings -/

/-- Settles O20: the cancellation of whatever was pending comes before the arming. -/
theorem binaryStateLowPacket : Obligations.BinaryStateLowPacket := by
  intro a rest s
  have hcmd : EndsPairings 0x6E := by decide
  exact ⟨decode_two_byte_instr (.binl a) rfl hcmd.two_bytes rest,
    processPacket_endsPairings hcmd a (·.armPairing .awaitingBinaryStateHigh a) s⟩

/-- Settles O22: the cancellation of whatever was pending comes before the arming. -/
theorem masterAddressLowPacket : Obligations.MasterAddressLowPacket := by
  intro a rest s
  have hcmd : EndsPairings 0x5E := by decide
  exact ⟨decode_two_byte_instr (.madl a) rfl hcmd.two_bytes rest,
    processPacket_endsPairings hcmd a (·.armPairing .awaitingMasterAddressHigh a) s⟩

/-- The command continues the pairing `p` and no other (R83). -/
def Continues (cmd : Byte) (p : PairState) : Prop := ∀ q, pairAfterCancel q cmd = if q = p then p else .idle

theorem binh_continues : Continues 0x6F .awaitingBinaryStateHigh
  | .idle | .awaitingBinaryStateHigh | .awaitingMasterAddressHigh | .unused => rfl

theorem madh_continues : Continues 0x5F .awaitingMasterAddressHigh
  | .idle | .awaitingBinaryStateHigh | .awaitingMasterAddressHigh | .unused => rfl

/-- A continuation completes its pairing if that was pending and does nothing otherwise; Idle either way (D15, D16). -/
theorem processPacket_continuation {cmd : Byte} {p : PairState} (hlen : isThreeByte cmd = false)
    (hcont : Continues cmd p) (hp : p ≠ .idle) (a : Byte) (f : Byte → Event) (s : State) :
    processPacket ⟨cmd, a, 0x00⟩ (fun t => if t.pair = p then (t.emit (f t.pairLow)).clearPairing else t) s =
      .next { s with
        pair := .idle
        evLog := s.evLog ++ .raw2 cmd a :: (if s.pair = p then [f s.pairLow] else []) } := by
  rw [processPacket_eq, hcont, rawEvent_two hlen]
  by_cases hpending : s.pair = p
  · simp [hpending, State.emit, State.clearPairing]
  · simp [hpending, hp.symm]

/-- Settles O21: 0x6F continues the pairing BINL arms. -/
theorem binaryStateHighPacket : Obligations.BinaryStateHighPacket := by
  intro a rest s
  rw [← longNumber_eq, ← topBit_eq]
  have hlen : isThreeByte 0x6F = false := by decide
  exact ⟨decode_two_byte_instr (.binh a) rfl hlen rest,
    processPacket_continuation hlen binh_continues PairState.noConfusion a
      (fun low => .binaryStateLong (longNumber a low) (topBit low)) s⟩

/-- Settles O23: 0x5F continues the pairing MADL arms. -/
theorem masterAddressHighPacket : Obligations.MasterAddressHighPacket := by
  intro a rest s
  rw [← masterAddress_eq]
  have hlen : isThreeByte 0x5F = false := by decide
  exact ⟨decode_two_byte_instr (.madh a) rfl hlen rest,
    processPacket_continuation hlen madh_continues PairState.noConfusion a
      (fun low => .masterAddress (masterAddress a low)) s⟩

end Sys2Proof.Machine
end

section
/-! What every packet does to the log and to the pairing: its raw event stands first and alone (42_command_interpreter.md
R82, R130), and a pairing is pending only right after its opener (R83, R104). -/

namespace Sys2Proof.Machine

/-! ### What a dispatch stage logs and leaves pending -/

/-- The event is a raw notification (R82). -/
def Event.isRaw : Event → Bool
  | .raw2 _ _ | .raw3 _ _ _ => true
  | _ => false

theorem Event.isRaw_eq_false_iff (e : Event) : e.isRaw = false ↔ e.kind ≠ .raw2 ∧ e.kind ≠ .raw3 := by
  cases e <;> simp [Event.isRaw, Event.kind]

/-- `t` is reached from `s` by a dispatch stage that logs no raw event and leaves `pair` as `p`. -/
structure Dispatched (p : PairState) (s t : State) : Prop where
  pair : t.pair = p
  log : ∃ es, t.evLog = s.evLog ++ es ∧ ∀ e ∈ es, e.isRaw = false

namespace Dispatched

theorem of_same_log {p : PairState} {s t : State} (hpair : t.pair = p) (hlog : t.evLog = s.evLog) :
    Dispatched p s t :=
  ⟨hpair, [], by rw [hlog, List.append_nil], by simp⟩

theorem refl (s : State) : Dispatched s.pair s s := of_same_log rfl rfl

theorem trans {p q : PairState} {s t u : State} (h₁ : Dispatched p s t) (h₂ : Dispatched q t u) :
    Dispatched q s u := by
  obtain ⟨-, es₁, hlog₁, hes₁⟩ := h₁
  obtain ⟨hpair, es₂, hlog₂, hes₂⟩ := h₂
  refine ⟨hpair, es₁ ++ es₂, by rw [hlog₂, hlog₁, List.append_assoc], fun e he => ?_⟩
  exact (List.mem_append.mp he).elim (hes₁ e) (hes₂ e)

theorem emitAll {es : List Event} (hes : ∀ e ∈ es, e.isRaw = false) (s : State) :
    Dispatched s.pair s (s.emitAll es) :=
  ⟨rfl, es, rfl, hes⟩

theorem emit {e : Event} (he : e.isRaw = false) (s : State) : Dispatched s.pair s (s.emit e) :=
  emitAll (es := [e]) (by simpa using he) s

theorem ackIf (due : Bool) (s : State) : Dispatched s.pair s (s.ackIf due) := by
  rw [State.ackIf_eq]
  refine emitAll (fun e he => ?_) s
  cases due with
  | false => cases he
  | true => rw [List.mem_singleton.mp he]; rfl

theorem drawAnswer (s : State) : Dispatched s.pair s s.drawAnswer := of_same_log rfl rfl

theorem setCvIndex (v : Byte) (s : State) : Dispatched s.pair s (s.setCvIndex v) := of_same_log rfl rfl

theorem armPairing (p : PairState) (low : Byte) (s : State) : Dispatched p s (s.armPairing p low) :=
  of_same_log rfl rfl

theorem clearPairing (s : State) : Dispatched .idle s s.clearPairing := of_same_log rfl rfl

theorem markUnknown (s : State) : Dispatched s.pair s s.markUnknown := of_same_log rfl rfl

/-- A call to CV storage: one draw and one log entry (R110). -/
theorem storageCall {e : Event} (he : e.isRaw = false) (s : State) : Dispatched s.pair s (s.drawAnswer.emit e) :=
  (drawAnswer s).trans (emit he s.drawAnswer)

theorem currentByte (v : Byte) (s : State) : Dispatched s.pair s (Machine.currentByte v s).2 := by
  cases h : isIndexCV s.params.indexCvKey v with
  | true => rw [currentByte_index h]; exact refl s
  | false => rw [currentByte_storage h]; exact storageCall rfl s

theorem storeCV (v val : Byte) (s : State) : Dispatched s.pair s (Machine.storeCV v val s) := by
  cases h : isIndexCV s.params.indexCvKey v with
  | true => rw [storeCV_index h]; exact (setCvIndex val s).trans (emit rfl (s.setCvIndex val))
  | false => rw [storeCV_storage h, ← State.ackIf_eq]; exact (storageCall rfl s).trans (ackIf _ (s.drawAnswer.emit _))

/-- A body that runs on from CurrentByte. -/
theorem after_currentByte {v : Byte} {s t : State}
    (h : Dispatched (Machine.currentByte v s).2.pair (Machine.currentByte v s).2 t) : Dispatched s.pair s t :=
  (currentByte v s).pair ▸ (currentByte v s).trans h

theorem cvCheck (v a : Byte) (s : State) : Dispatched s.pair s (Machine.cvCheck v a s) :=
  after_currentByte (ackIf _ _)

theorem cvBitAccess (v a : Byte) (s : State) : Dispatched s.pair s (Machine.cvBitAccess v a s) := by
  unfold Machine.cvBitAccess
  split
  · dsimp only
    split
    · exact after_currentByte (storeCV _ _ _)
    · exact after_currentByte (ackIf _ _)
  · exact refl s

theorem cvFactoryReset (v a : Byte) (s : State) : Dispatched s.pair s (Machine.cvFactoryReset v a s) := by
  unfold Machine.cvFactoryReset
  split
  · exact (emit rfl s).trans (ackIf true (s.emit _))
  · exact refl s

theorem cvAccess {body : State → State} {cmd v : Byte} {s : State} (hbody : Dispatched s.pair s (body s)) :
    Dispatched s.pair s (Machine.cvAccess cmd v body s) := by
  rcases cvAccess_cases cmd v body s with ⟨-, hrun⟩ | hskip
  · rwa [hrun]
  · rw [hskip]; exact refl s

/-- The stage of BIN: one event or the broadcast. -/
theorem binaryState (c : Prop) [Decidable c] (n : BitVec 7) (on : Bool) (s : State) :
    Dispatched s.pair s (if c then s.emit (.binaryState n on) else s.emitAll (broadcastEvents on)) := by
  split
  · exact emit rfl s
  · refine emitAll (fun e he => ?_) s
    obtain ⟨k, -, rfl⟩ := List.mem_map.mp he
    rfl

/-- The stage of a continuation ends the pairing it completes. -/
theorem continuation (p : PairState) {f : Byte → Event} (hf : ∀ low, (f low).isRaw = false) (s : State) :
    Dispatched (if s.pair = p then .idle else s.pair) s
      (if s.pair = p then (s.emit (f s.pairLow)).clearPairing else s) := by
  split
  · exact (emit (hf s.pairLow) s).trans (clearPairing _)
  · exact refl s

theorem dispatchUnknown (cmd arg1 : Byte) (s : State) : Dispatched s.pair s (Machine.dispatchUnknown cmd arg1 s) :=
  (emit rfl s).trans (markUnknown (s.emit _))

end Dispatched

/-- The pairing the dispatch stage of an instruction leaves, from the one the cancellation left: an opener arms its
own, a continuation ends its own (R87, R88, R99, R100). -/
def pairAfterStage (i : Instr) (p : PairState) : PairState :=
  match i with
  | .binl _ => .awaitingBinaryStateHigh
  | .binh _ => if p = .awaitingBinaryStateHigh then .idle else p
  | .madl _ => .awaitingMasterAddressHigh
  | .madh _ => if p = .awaitingMasterAddressHigh then .idle else p
  | _ => p

/-- Every instruction is Process around a stage that logs no raw event and leaves that pairing. -/
theorem exec_dispatched_stage (i : Instr) :
    ∃ d, (∀ s, exec i s = processPacket ⟨i.cmd, i.arg1, i.arg2⟩ d s) ∧
      ∀ u : State, Dispatched (pairAfterStage i u.pair) u (d u) := by
  cases i with
  | nop | trig | mcur | aspd24 | aspd50 | rspd25 | rspd51 | mload | agrp | adir | aux | dspd | fgrp60 | fgrp68 | mctl =>
    dsimp only [exec]
    exact ⟨_, fun _ => rfl, fun u => .emit rfl u⟩
  | bin => exact ⟨_, fun _ => rfl, fun u => .binaryState _ _ _ u⟩
  | madl low | binl low => exact ⟨_, fun _ => rfl, fun u => .armPairing _ low u⟩
  | madh a =>
    have hraw : ∀ low, (Event.masterAddress (masterAddress a low)).isRaw = false := fun _ => rfl
    exact ⟨_, fun _ => rfl, fun u => .continuation _ hraw u⟩
  | binh a =>
    have hraw : ∀ low, (Event.binaryStateLong (longNumber a low) (topBit low)).isRaw = false := fun _ => rfl
    exact ⟨_, fun _ => rfl, fun u => .continuation _ hraw u⟩
  | cvchk v a => exact ⟨_, fun _ => rfl, fun u => .cvAccess (.cvCheck v a u)⟩
  | cvbit v a => exact ⟨_, fun _ => rfl, fun u => .cvAccess (.cvBitAccess v a u)⟩
  | cvrst v a => exact ⟨_, fun _ => rfl, fun u => .cvAccess (.cvFactoryReset v a u)⟩
  | cvwr v a => exact ⟨_, fun _ => rfl, fun u => .cvAccess (.storeCV v a u)⟩
  | _ => exact ⟨_, fun _ => rfl, fun u => .dispatchUnknown _ _ u⟩

/-- What a packet logs after its raw event, and the pairing it leaves. -/
theorem dispatched_of_exec {i : Instr} {s t : State} (h : exec i s = .next t) :
    Dispatched (pairAfterStage i (pairAfterCancel s.pair i.cmd)) (s.beforeDispatch i) t := by
  obtain ⟨d, hprocess, hstage⟩ := exec_dispatched_stage i
  rw [hprocess, processPacket_eq] at h
  cases h
  exact hstage (s.beforeDispatch i)

/-- Settles O44: the raw event is logged before the dispatch stage, and the stage logs none. -/
theorem rawEventFirst : Obligations.RawEventFirst := by
  intro i s t hexec
  obtain ⟨-, es, hlog, hraw⟩ := dispatched_of_exec hexec
  exact ⟨es, hlog.trans (List.append_assoc _ _ _), fun e he => e.isRaw_eq_false_iff.mp (hraw e he)⟩

/-! ### A pairing is pending only right after its opener -/

/-- The command that arms a pairing (R87, R99), as `PairState.expected` is the one that ends it. -/
def PairState.opener : PairState → Option Byte
  | .awaitingBinaryStateHigh => some 0x6E
  | .awaitingMasterAddressHigh => some 0x5E
  | .idle | .unused => none

/-- A pairing that a dispatch stage leaves pending from Idle is one its own command arms. -/
theorem opener_of_pairAfterStage {i : Instr} (h : pairAfterStage i .idle ≠ .idle) :
    (pairAfterStage i .idle).opener = some i.cmd := by
  cases i with
  | binl | madl => rfl
  | _ => exact absurd rfl h

theorem pairAfterCancel_of_not_expected {p : PairState} {cmd : Byte} (h : p.expected ≠ some cmd) :
    pairAfterCancel p cmd = .idle := by
  cases p with
  | idle | unused => rfl
  | awaitingBinaryStateHigh | awaitingMasterAddressHigh => exact if_neg fun e => h (congrArg some e.symm)

/-- A pending pairing does not survive a packet that neither continues it nor arms it afresh (R83). -/
theorem pair_ne_of_exec {i : Instr} {s t : State} (hexec : exec i s = .next t) (hpending : s.pair ≠ .idle)
    (hcont : s.pair.expected ≠ some i.cmd) (hopener : s.pair.opener ≠ some i.cmd) : t.pair ≠ s.pair := by
  have hafter : t.pair = pairAfterStage i .idle := by
    rw [(dispatched_of_exec hexec).pair, pairAfterCancel_of_not_expected hcont]
  intro hsame
  rw [← hsame, hafter] at hpending hopener
  exact hopener (opener_of_pairAfterStage hpending)

/-- Settles O48: the continuation finds its pairing armed by the opener, or cancelled by the packet between. -/
theorem pairingNeedsAdjacentPackets : Obligations.PairingNeedsAdjacentPackets := by
  intro lo hi s
  have hbinl := fun s => (binaryStateLowPacket lo [] s).2
  have hbinh := fun s => (binaryStateHighPacket hi [] s).2
  have hmadl := fun s => (masterAddressLowPacket lo [] s).2
  have hmadh := fun s => (masterAddressHighPacket hi [] s).2
  have hother : ∀ {cmd other : Byte}, cmd ≠ other → some other ≠ some cmd := fun h e => h (Option.some.inj e).symm
  refine ⟨⟨_, _, hbinl s, hbinh _, rfl, ?_⟩, ⟨_, _, hmadl s, hmadh _, rfl, ?_⟩, fun i t u _ hopener ht hcont hu => ?_,
    fun i t u _ hopener ht hcont hu => ?_⟩
  · simp
  · simp
  · cases (hbinl s).symm.trans ht
    rw [hbinh, if_neg (pair_ne_of_exec hu PairState.noConfusion (hother hcont) (hother hopener))]
  · cases (hmadl s).symm.trans ht
    rw [hmadh, if_neg (pair_ne_of_exec hu PairState.noConfusion (hother hcont) (hother hopener))]

end Sys2Proof.Machine
end

section
/-! The selectors of the CV opcodes: which are valid for which identity (43_cv_access.md R108), and which are index CVs
under either key (R109). -/

namespace Sys2Proof.Machine

open Sys2Proof.Config

/-! ### The normalised selector -/

/-- Normalising moves the selectors with bit 7 set down to 0..127, and the others up. -/
theorem normalised_toNat (v : Byte) :
    (v ^^^ 0x80).toNat = if 128 ≤ v.toNat then v.toNat - 128 else v.toNat + 128 := by
  revert v; decide

/-- The selector check as conditions on the number of the normalised selector. -/
theorem isValidCV_iff_normalised {v e : Byte} (he : v ^^^ 0x80 = e) (id : BitVec 2) :
    isValidCV v id = true ↔
      e.toNat < 128 ∧ (e.toNat ≤ 3 ∨ 123 ≤ e.toNat ∨ (4 ≤ e.toNat ∧ e.toNat ≤ 42 ∧ id = 1) ∨
        (43 ≤ e.toNat ∧ e.toNat ≤ 82 ∧ id = 2) ∨ (83 ≤ e.toNat ∧ e.toNat ≤ 122 ∧ id = 3)) := by
  have hbit : e.getLsbD 7 = decide (128 ≤ e.toNat) := topBit_eq e
  simp only [isValidCV, he, hbit, BitVec.le_def, decide_eq_true_eq, Bool.or_eq_true, Bool.and_eq_true, BitVec.reduceToNat]
  split_ifs <;> simp <;> bv_omega

/-- Settles O28: the normalised selector is below 128 exactly when bit 7 of the selector is 1. -/
theorem selectorValidity : Obligations.SelectorValidity := by
  intro v id
  rw [isValidCV_iff_normalised rfl, normalised_toNat]
  have hlt : v.toNat < 256 := v.isLt
  split
  · exact and_congr (by omega) Iff.rfl
  · exact iff_of_false (fun h => by omega) (fun h => by omega)

/-! ### The index CVs -/

theorem isIndexCV_raw_iff (v : Byte) : isIndexCV .raw v = true ↔ v.toNat = 1 ∨ v.toNat = 124 := by
  simp [isIndexCV, ← BitVec.toNat_inj]

theorem isIndexCV_normalized_iff (v : Byte) : isIndexCV .normalized v = true ↔ v.toNat = 0x81 ∨ v.toNat = 0xFC := by
  have hraw : isIndexCV .normalized v = isIndexCV .raw (v ^^^ 0x80) := rfl
  have hlt : v.toNat < 256 := v.isLt
  rw [hraw, isIndexCV_raw_iff, normalised_toNat]
  split <;> omega

/-- Under RAW the index CVs have bit 7 clear, so that none passes the selector check (R109). -/
theorem not_isIndexCV_raw_of_isValidCV {v : Byte} {id : BitVec 2} (h : isValidCV v id = true) :
    isIndexCV .raw v = false := by
  obtain ⟨hhigh, -⟩ := (selectorValidity v id).mp h
  rw [Bool.eq_false_iff, Ne, isIndexCV_raw_iff]
  omega

/-- Settles O29: both keys as conditions on the number of the selector. -/
theorem indexCvSelectors : Obligations.IndexCvSelectors := fun v =>
  ⟨isIndexCV_raw_iff v, isIndexCV_normalized_iff v, fun _ => not_isIndexCV_raw_of_isValidCV⟩

end Sys2Proof.Machine
end

section
/-! The four CV packets (43_cv_access.md R107 to R115): how the bytes of each decode, and the whole next state it answers
on each side of the gate. -/

namespace Sys2Proof.Machine

open Sys2Proof.Config

/-! ### The bytes of a 3-byte packet -/

theorem decode_three_byte_instr (i : Instr) (hwf : WellFormed i = true) (hlen : isThreeByte i.cmd = true)
    (rest : List Byte) : decode (i.cmd :: i.arg1 :: i.arg2 :: rest) = .ok (i, rest) := by
  have hround : decode (encode i ++ rest) = .ok (i, rest) := decodeReadsEncodedInstruction i rest hwf
  rwa [encode_three hlen] at hround

theorem isThreeByte_of_isCvOpcode {cmd : Byte} (h : isCvOpcode cmd = true) : isThreeByte cmd = true := by
  revert cmd; decide

/-- The state the stage of a CV opcode starts from: it has three bytes and continues no pairing (R82, R83). -/
theorem processPacket_cv {cmd : Byte} (h : isCvOpcode cmd = true) (v a : Byte) (d : State → State) (s : State) :
    processPacket ⟨cmd, v, a⟩ d s = .next (d (s.clearPairing.emit (.raw3 cmd v a))) := by
  have hmadh : cmd ≠ 0x5F := by rintro rfl; cases h
  have hbinh : cmd ≠ 0x6F := by rintro rfl; cases h
  have hraw : rawEvent cmd v a = .raw3 cmd v a := if_pos (isThreeByte_of_isCvOpcode h)
  rw [processPacket_eq, pairAfterCancel_of_other hmadh hbinh, hraw]
  rfl

/-! ### The gate -/

/-- The gate of an opcode other than 0x7C is the selector check (R107). -/
theorem cvAccess_of_ne_reset {cmd : Byte} (hcmd : cmd ≠ 0x7C) (v : Byte) (body : State → State) (s : State) :
    cvAccess cmd v body s = if isValidCV v s.slaveAddr = false then s else body s := by
  by_cases hvalid : isValidCV v s.slaveAddr = false
  · rw [cvAccess, if_neg (not_or_intro (ne_true_of_eq_false hvalid) fun hreset => hcmd hreset.1), if_pos hvalid]
  · rw [cvAccess, if_pos (.inl (Bool.eq_true_of_not_eq_false hvalid)), if_neg hvalid]

/-- A CV opcode other than 0x7C: its raw event, then its body past the selector check. -/
theorem processPacket_cvAccess {cmd : Byte} (h : isCvOpcode cmd = true) (hcmd : cmd ≠ 0x7C) (v a : Byte)
    (body : State → State) (s : State) :
    processPacket ⟨cmd, v, a⟩ (cvAccess cmd v body) s =
      .next (if isValidCV v s.slaveAddr = false then s.clearPairing.emit (.raw3 cmd v a)
        else body (s.clearPairing.emit (.raw3 cmd v a))) := by
  rw [processPacket_cv h, cvAccess_of_ne_reset hcmd]
  rfl

/-! ### The byte check -/

theorem cvCheck_index {v a : Byte} {s : State} (h : isIndexCV s.params.indexCvKey v = true) :
    cvCheck v a s = s.emitAll (ackEvents (s.cvIndex == a)) := by
  rw [cvCheck, currentByte_index h, ← State.ackIf_eq]

theorem cvCheck_storage {v a : Byte} {s : State} (h : isIndexCV s.params.indexCvKey v = false) :
    cvCheck v a s =
      (s.drawAnswer.emit (.readCV v s.cvIndex (s.answerAt 0))).emitAll (ackEvents (s.answerAt 0 == a)) := by
  rw [cvCheck, currentByte_storage h, ← State.ackIf_eq]

/-- Settles O24: past the gate, CurrentByte and the comparison. -/
theorem cvByteCheckPacket : Obligations.CvByteCheckPacket := by
  intro v a rest s
  refine ⟨decode_three_byte_instr (.cvchk v a) rfl (isThreeByte_of_isCvOpcode rfl) rest, ?_⟩
  rw [exec, execCvchk, processPacket_cvAccess rfl (by decide)]
  congr 1
  split
  · rfl
  split
  · next hindex =>
    rw [cvCheck_index (s := s.clearPairing.emit _) hindex]
    simp [State.emit, State.emitAll, State.clearPairing]
  · next hstorage =>
    rw [cvCheck_storage (s := s.clearPairing.emit _) (Bool.eq_false_of_not_eq_true hstorage)]
    simp [State.emit, State.emitAll, State.clearPairing, State.drawAnswer, State.answerAt]

/-! ### The byte write -/

/-- Settles O25: past the gate, the store of the byte. -/
theorem cvByteWritePacket : Obligations.CvByteWritePacket := by
  intro v a rest s
  refine ⟨decode_three_byte_instr (.cvwr v a) rfl (isThreeByte_of_isCvOpcode rfl) rest, ?_⟩
  rw [exec, execCvwr, processPacket_cvAccess rfl (by decide)]
  congr 1
  split
  · rfl
  split
  · next hindex =>
    rw [storeCV_index (s := s.clearPairing.emit _) hindex]
    simp [State.emit, State.setCvIndex, State.clearPairing]
  · next hstorage =>
    rw [storeCV_storage (s := s.clearPairing.emit _) (Bool.eq_false_of_not_eq_true hstorage)]
    simp [State.emit, State.emitAll, State.clearPairing, State.drawAnswer, State.answerAt]

/-! ### The bit check and the bit write -/

theorem cvbPatternOk_eq (a : Byte) : cvbPatternOk a = decide (a.toNat / 32 = 7) := by
  revert a; decide

theorem cvbPosition_eq (a : Byte) : cvbPosition a = a.toNat % 8 := by
  simp [cvbPosition]

/-- Without the pattern the packet ends before any read (R114). -/
theorem cvBitAccess_of_other_pattern {a : Byte} (h : a.toNat / 32 ≠ 7) (v : Byte) (s : State) :
    cvBitAccess v a s = s := by
  simp [cvBitAccess, cvbPatternOk_eq, h]

/-- With the pattern, `P`, `B` and the mode are fields of the data byte (R57, R114). -/
theorem cvBitAccess_of_pattern {a : Byte} (h : a.toNat / 32 = 7) {v cur : Byte} {s t : State}
    (hread : currentByte v s = (cur, t)) :
    cvBitAccess v a s =
      if a.getLsbD 4 = true then storeCV v (withBit cur (a.toNat % 8) (a.getLsbD 3)) t
      else t.emitAll (ackEvents (cur.getLsbD (a.toNat % 8) == a.getLsbD 3)) := by
  rw [cvBitAccess, cvbPatternOk_eq, decide_eq_true h, if_pos rfl, hread, cvbPosition_eq, ← State.ackIf_eq]
  rfl

/-- Settles O26: the pattern, the read of both modes, then the store or the comparison. -/
theorem cvBitPacket : Obligations.CvBitPacket := by
  intro v a rest s
  refine ⟨decode_three_byte_instr (.cvbit v a) rfl (isThreeByte_of_isCvOpcode rfl) rest, ?_⟩
  rw [exec, execCvbit, processPacket_cvAccess rfl (by decide)]
  congr 1
  dsimp only
  by_cases hvalid : isValidCV v s.slaveAddr = false
  · rw [if_pos hvalid, if_pos (.inl hvalid)]
    rfl
  by_cases hpattern : a.toNat / 32 = 7
  case neg =>
    rw [if_neg hvalid, if_pos (.inr hpattern), cvBitAccess_of_other_pattern hpattern]
    rfl
  rw [if_neg hvalid, if_neg (not_or_intro hvalid (not_not_intro hpattern))]
  by_cases hindex : isIndexCV s.params.indexCvKey v = true
  · rw [if_pos hindex, if_pos hindex,
      cvBitAccess_of_pattern hpattern (currentByte_index (s := s.clearPairing.emit _) hindex)]
    split
    · rw [storeCV_index (s := s.clearPairing.emit _) hindex]
      simp [State.emit, State.setCvIndex, State.clearPairing]
    · simp [State.emit, State.emitAll, State.clearPairing]
  · have hstorage : isIndexCV s.params.indexCvKey v = false := Bool.eq_false_of_not_eq_true hindex
    rw [if_neg hindex, if_neg hindex,
      cvBitAccess_of_pattern hpattern (currentByte_storage (s := s.clearPairing.emit _) hstorage)]
    split
    · have hdrop : s.answers.tail.tail = s.answers.drop 2 := by
        simp only [← List.drop_one, List.drop_drop]
      rw [storeCV_storage (s := (s.clearPairing.emit _).drawAnswer.emit _) hstorage]
      simp [State.emit, State.emitAll, State.clearPairing, State.drawAnswer, State.answerAt, hdrop]
    · simp [State.emit, State.emitAll, State.clearPairing, State.drawAnswer, State.answerAt]

/-! ### The factory-reset trigger -/

/-- The stage of 0x7C acts for the selector 0x07 alone, when that is valid or the gate open (R107, R115). -/
theorem cvAccess_factoryReset (v a : Byte) (s : State) :
    cvAccess 0x7C v (cvFactoryReset v a) s =
      s.emitAll (if v = 0x07 ∧ (isValidCV v s.slaveAddr = true ∨ s.params.cvResetGate = .ungated) then
        [.factoryReset a, .ackPulse] else []) := by
  by_cases hgate : isValidCV v s.slaveAddr = true ∨ s.params.cvResetGate = .ungated
  · rw [cvAccess, if_pos (hgate.imp_right fun hopen => ⟨rfl, hopen⟩), cvFactoryReset]
    by_cases hselector : v = 0x07
    · rw [if_pos hselector, if_pos ⟨hselector, hgate⟩]
      simp [State.emit, State.emitAll, State.ackIf]
    · rw [if_neg hselector, if_neg fun h => hselector h.1, State.emitAll_nil]
  · rw [cvAccess, if_neg fun h => hgate (h.imp_right And.right), if_neg fun h => hgate h.2, State.emitAll_nil]

/-- Settles O27: its raw event, then its stage. -/
theorem cvFactoryResetPacket : Obligations.CvFactoryResetPacket := by
  intro v a rest s
  refine ⟨decode_three_byte_instr (.cvrst v a) rfl (isThreeByte_of_isCvOpcode rfl) rest, ?_⟩
  rw [exec, execCvrst, processPacket_cv rfl, cvAccess_factoryReset, State.emitAll, State.emit_evLog,
    List.append_assoc]
  rfl

end Sys2Proof.Machine
end

section
/-! What a packet of any opcode does to `cv_index` and which acknowledgment it requests (43_cv_access.md R116, R117):
the packets of the other opcodes leave the one and request none. -/

namespace Sys2Proof.Machine

open Sys2Proof.Config

/-! ### The other opcodes -/

/-- The instructions of the four CV rows (R102). -/
def isCvInstr : Instr → Bool
  | .cvchk .. | .cvbit .. | .cvrst .. | .cvwr .. => true
  | _ => false

/-- From `s` to `t` no acknowledgment is requested and `cv_index` stays. -/
structure NoCvEffect (s t : State) : Prop where
  cvIndex : t.cvIndex = s.cvIndex
  log : ∃ es, t.evLog = s.evLog ++ es ∧ .ackPulse ∉ es

namespace NoCvEffect

theorem emitAll {es : List Event} (hes : .ackPulse ∉ es) (s : State) : NoCvEffect s (s.emitAll es) :=
  ⟨rfl, es, rfl, hes⟩

theorem emit {e : Event} (he : .ackPulse ≠ e) (s : State) : NoCvEffect s (s.emit e) :=
  emitAll (List.mem_singleton.not.mpr he) s

theorem of_unlogged {s t : State} (hindex : t.cvIndex = s.cvIndex) (hlog : t.evLog = s.evLog) : NoCvEffect s t :=
  ⟨hindex, [], hlog.trans s.evLog.append_nil.symm, List.not_mem_nil⟩

theorem trans {s t u : State} (h₁ : NoCvEffect s t) (h₂ : NoCvEffect t u) : NoCvEffect s u := by
  obtain ⟨hindex₁, es₁, hlog₁, hes₁⟩ := h₁
  obtain ⟨hindex₂, es₂, hlog₂, hes₂⟩ := h₂
  refine ⟨hindex₂.trans hindex₁, es₁ ++ es₂, by rw [hlog₂, hlog₁, List.append_assoc], ?_⟩
  exact List.mem_append.not.mpr (not_or_intro hes₁ hes₂)

theorem armPairing (p : PairState) (low : Byte) (s : State) : NoCvEffect s (s.armPairing p low) :=
  of_unlogged rfl rfl

/-- The stage of BIN: one event or the broadcast. -/
theorem binaryState (c : Prop) [Decidable c] (n : BitVec 7) (on : Bool) (s : State) :
    NoCvEffect s (if c then s.emit (.binaryState n on) else s.emitAll (broadcastEvents on)) := by
  split
  · exact emit Event.noConfusion s
  · exact emitAll (by simp [broadcastEvents]) s

/-- The stage of a continuation: an event from the cached byte if its pairing is pending, nothing otherwise. -/
theorem continuation (p : PairState) {f : Byte → Event} (hf : ∀ low, .ackPulse ≠ f low) (s : State) :
    NoCvEffect s (if s.pair = p then (s.emit (f s.pairLow)).clearPairing else s) := by
  split
  · exact (emit (hf s.pairLow) s).trans (of_unlogged rfl rfl)
  · exact of_unlogged rfl rfl

theorem dispatchUnknown (cmd arg1 : Byte) (s : State) : NoCvEffect s (Machine.dispatchUnknown cmd arg1 s) :=
  (emit Event.noConfusion s).trans (of_unlogged rfl rfl)

theorem beforeDispatch (i : Instr) (s : State) : NoCvEffect s (s.beforeDispatch i) := by
  have hraw : Event.ackPulse ≠ rawEvent i.cmd i.arg1 i.arg2 := by
    unfold rawEvent
    split <;> exact Event.noConfusion
  exact (emit hraw s).trans (of_unlogged rfl rfl)

end NoCvEffect

/-- An instruction of another row is Process around a stage without either effect. -/
theorem exec_noCvEffect_stage {i : Instr} (h : isCvInstr i = false) :
    ∃ d, (∀ s, exec i s = processPacket ⟨i.cmd, i.arg1, i.arg2⟩ d s) ∧ ∀ u, NoCvEffect u (d u) := by
  cases i with
  | cvchk | cvbit | cvrst | cvwr => cases h
  | nop | trig | mcur | aspd24 | aspd50 | rspd25 | rspd51 | mload | agrp | adir | aux | dspd | fgrp60 | fgrp68 | mctl =>
    dsimp only [exec]
    exact ⟨_, fun _ => rfl, fun u => .emit Event.noConfusion u⟩
  | bin => exact ⟨_, fun _ => rfl, fun u => .binaryState _ _ _ u⟩
  | madl low | binl low => exact ⟨_, fun _ => rfl, fun u => .armPairing _ low u⟩
  | madh a =>
    have hack : ∀ low, .ackPulse ≠ Event.masterAddress (masterAddress a low) := fun _ => Event.noConfusion
    exact ⟨_, fun _ => rfl, fun u => .continuation _ hack u⟩
  | binh a =>
    have hack : ∀ low, .ackPulse ≠ Event.binaryStateLong (longNumber a low) (topBit low) := fun _ => Event.noConfusion
    exact ⟨_, fun _ => rfl, fun u => .continuation _ hack u⟩
  | _ => exact ⟨_, fun _ => rfl, fun u => .dispatchUnknown _ _ u⟩

theorem noCvEffect_of_exec {i : Instr} {s t : State} (h : isCvInstr i = false) (hexec : exec i s = .next t) :
    NoCvEffect s t := by
  obtain ⟨d, hprocess, hstage⟩ := exec_noCvEffect_stage h
  rw [hprocess, processPacket_eq] at hexec
  cases hexec
  exact (NoCvEffect.beforeDispatch i s).trans (hstage _)

/-! ### The acknowledgment -/

/-- From `s` to `t` the log gains events that are no acknowledgment, and then an acknowledgment if `due`. -/
def AcknowledgedLast (s t : State) (due : Bool) : Prop :=
  ∃ es, .ackPulse ∉ es ∧ t.evLog = s.evLog ++ (es ++ ackEvents due)

/-- Each arm of a CV packet ends in at most one acknowledgment (R112 to R115). -/
theorem acknowledgedLast_of_cv {i : Instr} {s t : State} (h : isCvInstr i = true) (hexec : exec i s = .next t) :
    ∃ due, AcknowledgedLast s t due := by
  cases i with
  | cvchk v a =>
    cases (cvByteCheckPacket v a [] s).2.symm.trans hexec
    split
    · exact ⟨false, [_], by simp, rfl⟩
    split
    · exact ⟨_, [_], by simp, rfl⟩
    · exact ⟨_, [_, _], by simp, rfl⟩
  | cvwr v a =>
    cases (cvByteWritePacket v a [] s).2.symm.trans hexec
    split
    · exact ⟨false, [_], by simp, rfl⟩
    split
    · exact ⟨true, [_], by simp, rfl⟩
    · exact ⟨_, [_, _], by simp, rfl⟩
  | cvbit v a =>
    cases (cvBitPacket v a [] s).2.symm.trans hexec
    dsimp only
    split
    · exact ⟨false, [_], by simp, rfl⟩
    split
    · split
      · exact ⟨true, [_], by simp, rfl⟩
      · exact ⟨_, [_], by simp, rfl⟩
    split
    · exact ⟨_, [_, _, _], by simp, rfl⟩
    · exact ⟨_, [_, _], by simp, rfl⟩
  | cvrst v a =>
    cases (cvFactoryResetPacket v a [] s).2.symm.trans hexec
    by_cases hact : v = 0x07 ∧ (isValidCV v s.slaveAddr = true ∨ s.params.cvResetGate = .ungated)
    · exact ⟨true, [.raw3 0x7C v a, .factoryReset a], by simp, by rw [if_pos hact]; rfl⟩
    · exact ⟨false, [.raw3 0x7C v a], by simp, by rw [if_neg hact]; rfl⟩
  | _ => cases h

theorem ackPulse_not_mem_dropLast {es : List Event} (h : .ackPulse ∉ es) (due : Bool) :
    .ackPulse ∉ (es ++ ackEvents due).dropLast := by
  cases due with
  | false => simpa [ackEvents] using mt List.mem_of_mem_dropLast h
  | true => simpa [ackEvents] using h

theorem isCvOpcode_of_isCvInstr {i : Instr} (h : isCvInstr i = true) : isCvOpcode i.cmd = true := by
  cases i with
  | cvchk | cvbit | cvrst | cvwr => rfl
  | _ => cases h

/-- Settles O45: a CV packet requests its acknowledgment at its end, and another packet requests none. -/
theorem acknowledgmentComesLast : Obligations.AcknowledgmentComesLast := by
  intro i s t hexec
  cases hcv : isCvInstr i with
  | true =>
    obtain ⟨due, es, hes, hlog⟩ := acknowledgedLast_of_cv hcv hexec
    exact ⟨_, hlog, ackPulse_not_mem_dropLast hes due, fun _ => isCvOpcode_of_isCvInstr hcv⟩
  | false =>
    obtain ⟨-, es, hlog, hes⟩ := noCvEffect_of_exec hcv hexec
    exact ⟨es, hlog, mt List.mem_of_mem_dropLast hes, fun hmem => absurd hmem hes⟩

/-! ### The parameters -/

/-- Under RAW no packet writes `cv_index`: a selector past the gate is no index CV (R109, R117). -/
theorem cvIndex_of_exec {i : Instr} {s t : State} (hraw : s.params.indexCvKey = .raw) (hexec : exec i s = .next t) :
    t.cvIndex = s.cvIndex := by
  have hstorage : ∀ v, ¬isValidCV v s.slaveAddr = false → ¬isIndexCV s.params.indexCvKey v = true := by
    intro v hvalid
    rw [hraw, not_isIndexCV_raw_of_isValidCV (Bool.eq_true_of_not_eq_false hvalid)]
    exact Bool.false_ne_true
  cases i with
  | cvchk v a =>
    cases (cvByteCheckPacket v a [] s).2.symm.trans hexec
    split_ifs <;> rfl
  | cvwr v a =>
    cases (cvByteWritePacket v a [] s).2.symm.trans hexec
    split
    · rfl
    · next hvalid => rw [if_neg (hstorage v hvalid)]
  | cvbit v a =>
    cases (cvBitPacket v a [] s).2.symm.trans hexec
    dsimp only
    split
    · rfl
    · next hopen =>
      rw [if_neg (hstorage v fun hvalid => hopen (.inl hvalid))]
      split <;> rfl
  | cvrst v a =>
    cases (cvFactoryResetPacket v a [] s).2.symm.trans hexec
    rfl
  | _ => exact (noCvEffect_of_exec rfl hexec).cvIndex

/-- Under RAW only Init writes `cv_index` (R117). -/
theorem cvIndex_of_step {s t : State} (hraw : s.params.indexCvKey = .raw) (hinit : s.NoInitNext)
    (hstep : step s = .next t) : t.cvIndex = s.cvIndex := by
  cases move_of_step hstep with
  | byteArrived => rw [byteArrived_frame]; rfl
  | resync | drainStart | drainEnd | wait => rfl
  | initExplicit hi | initStorage hi => exact (hinit.not_init hi).elim
  | packet _ _ _ _ hexec =>
    have hpacket := cvIndex_of_exec (s := s.popInput.markSeen) hraw hexec
    exact hpacket

/-- Settles O30: each clause is the arm its parameter leaves of the CV packets. -/
theorem parameterConsequences : Obligations.ParameterConsequences := by
  refine ⟨fun s t => cvIndex_of_step, fun v a s hgated => ?gated, fun v a s hkey hv => ?normalized,
    fun a s hungated => ?ungated⟩
  case gated =>
    have hclosed : ¬(v = 0x07 ∧ (isValidCV v s.slaveAddr = true ∨ s.params.cvResetGate = .ungated)) := by
      rintro ⟨rfl, hvalid | hopen⟩
      · exact absurd ((selectorValidity _ _).mp hvalid).1 (by decide)
      · rw [hgated] at hopen; cases hopen
    rw [(cvFactoryResetPacket v a [] s).2, if_neg hclosed]
  case normalized =>
    have hvalid : ∀ id, isValidCV v id = true := fun id => (selectorValidity v id).mpr (by
      rcases hv with rfl | rfl <;> simp)
    have hindex : isIndexCV s.params.indexCvKey v = true := by
      rw [hkey, isIndexCV_normalized_iff]
      exact hv.imp (congrArg BitVec.toNat) (congrArg BitVec.toNat)
    refine ⟨hvalid, ?_⟩
    rw [(cvByteWritePacket v a [] s).2, if_neg (by simp [hvalid]), if_pos hindex]
  case ungated =>
    rw [(cvFactoryResetPacket 0x07 a [] s).2, if_pos ⟨rfl, .inr hungated⟩]

end Sys2Proof.Machine
end

section
/-! The identity of the module in a packet (60_exceptions.md R129): only the gate of the CV opcodes reads it, so the dispatch
stage of every other opcode does the same whatever the identity. -/

namespace Sys2Proof.Machine

/-- The state of a module with another identity (R24). -/
def State.withIdentity (s : State) (id : BitVec 2) : State := { s with slaveAddr := id }

/-- The operation does the same whatever the identity. -/
def IdentityBlind (d : State → State) : Prop := ∀ id s, d (s.withIdentity id) = (d s).withIdentity id

namespace IdentityBlind

/-- The event may depend on any part of the state but the identity. -/
theorem emit {f : State → Event} (hf : ∀ id s, f (State.withIdentity s id) = f s) :
    IdentityBlind fun s => s.emit (f s) :=
  fun id s => congrArg (s.withIdentity id).emit (hf id s)

theorem armPairing (p : PairState) (low : Byte) : IdentityBlind (·.armPairing p low) := fun _ _ => rfl

/-- The stage of BIN: one event or the broadcast. -/
theorem binaryState (c : Prop) [Decidable c] (e : Event) (es : List Event) :
    IdentityBlind fun s => if c then s.emit e else s.emitAll es := by
  intro id s
  rw [apply_ite (State.withIdentity · id)]
  rfl

/-- The stage of a continuation looks at the pairing alone. -/
theorem continuation (p : PairState) (f : Byte → Event) :
    IdentityBlind fun s => if s.pair = p then (s.emit (f s.pairLow)).clearPairing else s := by
  intro id s
  rw [apply_ite (State.withIdentity · id)]
  rfl

theorem dispatchUnknown (cmd arg1 : Byte) : IdentityBlind (Machine.dispatchUnknown cmd arg1) := fun _ _ => rfl

end IdentityBlind

/-- An instruction outside the CV rows is Process around a stage that does not look at the identity. -/
theorem exec_identityBlind_stage {i : Instr} (h : isCvInstr i = false) :
    ∃ d, (∀ s, exec i s = processPacket ⟨i.cmd, i.arg1, i.arg2⟩ d s) ∧ IdentityBlind d := by
  cases i with
  | cvchk | cvbit | cvrst | cvwr => cases h
  | nop | trig | mcur | aspd24 | aspd50 | rspd25 | rspd51 | mload | agrp | adir | aux | dspd | fgrp60 | fgrp68 | mctl =>
    dsimp only [exec]
    refine ⟨_, fun _ => rfl, ?_⟩
    exact .emit fun _ _ => rfl
  | bin => exact ⟨_, fun _ => rfl, .binaryState _ _ _⟩
  | madl low | binl low => exact ⟨_, fun _ => rfl, .armPairing _ low⟩
  | madh a => exact ⟨_, fun _ => rfl, .continuation _ fun low => .masterAddress (masterAddress a low)⟩
  | binh a => exact ⟨_, fun _ => rfl, .continuation _ fun low => .binaryStateLong (longNumber a low) (topBit low)⟩
  | _ => exact ⟨_, fun _ => rfl, .dispatchUnknown _ _⟩

theorem exec_withIdentity {i : Instr} {s t : State} (h : isCvInstr i = false) (id : BitVec 2)
    (hexec : exec i s = .next t) : exec i (s.withIdentity id) = .next (t.withIdentity id) := by
  obtain ⟨d, hprocess, hblind⟩ := exec_identityBlind_stage h
  rw [hprocess, processPacket_eq] at hexec ⊢
  cases hexec
  exact congrArg Host.Outcome.next (hblind id (s.beforeDispatch i))

/-- Settles O50: an instruction whose command byte is no CV opcode stands in no CV row. -/
theorem otherIdentitiesSeeTheSameCommands : Obligations.OtherIdentitiesSeeTheSameCommands := by
  intro i id s t hcmd hexec
  have hrow : isCvInstr i = false :=
    Bool.eq_false_of_not_eq_true fun h => absurd (isCvOpcode_of_isCvInstr h) (by simp [hcmd])
  exact exec_withIdentity hrow id hexec

end Sys2Proof.Machine
end

section
/-! Init as a step of the machine (70_reset_and_hazards.md R131, R132): its move is taken off the inputs, and the laws of the
two sources say the rest. -/

namespace Sys2Proof.Machine

theorem State.popInput_of_cons {s : State} {m : Input} {rest : List Input} (hi : s.inputs = m :: rest) :
    s.popInput = { s with inputs := rest } := by
  rw [State.popInput, hi, List.tail_cons]

/-- Settles O35: outside a Drain the move of either source is enabled, and what it leaves is the law of `initExplicit` or
`initStorage` on the remaining inputs. The model's own function has the name `initStep`. -/
theorem initStep_spec : Obligations.InitStep := by
  refine ⟨fun n rest s hn hdrain hi => ?explicit, fun rest s hdrain hi => ?storage⟩
  case explicit =>
    rw [step_of_move (.initExplicit hi hn hdrain), initExplicit_eq hn, State.popInput_of_cons hi]
    rfl
  case storage =>
    rw [step_of_move (.initStorage hi hdrain), initStorage_eq, State.popInput_of_cons hi]
    rfl

end Sys2Proof.Machine
end
